-- ==== Sys2Proof/Word.lean ====
section
/-! DEFINITION. The 16-bit word of the trunk, the return link, the seat lines and the light line
(00_scope.md, Conventions), and the fixed words of the wire formats. -/

namespace Sys2Proof

/-- A wire word: bits numbered from 0, the least significant (00_scope.md, Conventions). -/
abbrev Word := BitVec 16

/-- The number `n` as a word of a report or frame. -/
def word (n : Nat) : Word := BitVec.ofNat 16 n

/-- The sync code 0x8000 of every frame (R1, R32, R58, R60, R173). -/
def syncWord : Word := 0x8000#16

/-- The idle word FILL (R20). -/
def fillWord : Word := 0x0000#16

/-- The escape word ESC (R20). -/
def escWord : Word := 0x1B1B#16

/-- The word that follows ESC in a SOM pair (R20). -/
def somWord : Word := 0x0001#16

/-- The word that follows ESC in an EOM pair (R20). -/
def eomWord : Word := 0x0002#16

/-- The word that follows ESC in an ABT pair (R20). -/
def abtWord : Word := 0x0003#16

/-- The sum of words, each taken as an unsigned 16-bit number, modulo 65536 (R1). -/
def sumWords : List Word → Word
  | [] => 0
  | w :: ws => w + sumWords ws

/-- The check word that makes the sum of `ws` and itself 0 modulo 65536 (R1, R32, R58, R173). -/
def checkWord (ws : List Word) : Word := - sumWords ws

/-- A counter step that saturates at `top` and does not wrap (R5, R18, R63). -/
def satInc (top n : Nat) : Nat := if n < top then n + 1 else top

/-- A Bool as the number of its bit. -/
def bitNat (b : Bool) : Nat := if b then 1 else 0

end Sys2Proof
end

