-- ==== Sys2Proof/Syntax.lean ====
section
/-! DEFINITION. The commands of the block: one constructor of `Instr` for each row of
spec/opcode_table.json (operations and events, 95_what_each_step_holds.md). -/

namespace Sys2Proof

/-- The levels of the three strap pins as they stand when they are sampled (R192). -/
structure Straps where
  /-- UNIT1, UNIT0: the unit number, UNIT1 the high bit. -/
  unit : BitVec 2
  /-- PROF: low (false) for STRICT, high (true) for LENIENT. -/
  profHigh : Bool
  deriving DecidableEq, Repr

/-- The application of power (R192, R193). -/
structure PowerUp where
  /-- The straps at the application of power. -/
  straps : Straps
  /-- The power-on values stand with it (true), or do not stand yet (false); a POWER_ON with `stand` then ends the
  interval between (notes/assumptions/5.md). -/
  stand : Bool
  deriving DecidableEq, Repr

/-- The head of a control message as it stands at the message's EOM: the header word's fields (R21) but for the
kind, and the word-lost mark the decoder holds for the message (R25). -/
structure MsgHead where
  /-- Header bits 15–13: 0 to 3 a unit, 7 broadcast, 4 to 6 no unit. -/
  unit : BitVec 3
  /-- Header bits 6–3. -/
  tag : BitVec 4
  /-- Header bits 2–0. -/
  reserved : BitVec 3
  /-- The word-lost mark (R25). -/
  wordLost : Bool
  deriving DecidableEq, Repr

/-- Where the manual says of two things of one output frame that "either order may occur", the order of this frame
(notes/assumptions/12.md). -/
structure FrameOrder where
  /-- R69: per line, a missed poll of the closing reply window is judged before the frame's mix (true) or after it. -/
  pollsFirst : Vector Bool 4
  /-- R31, R33: the return frame is sent before (true) or after the announcement events this frame brings about. -/
  returnFirst : Bool
  deriving DecidableEq, Repr

/-- The commands: one constructor per row of spec/opcode_table.json. A row that names something that comes about
inside another step (R9 for HEALTH_LOST, R84 for FADE_SWITCH, …) takes that step's operands: see
notes/assumptions/1.md. A message row carries the message's head and its payload words (all of them, or those that the
row's name does not fix). -/
inductive Instr where
  /-- POWER_ON (R192). -/
  | powerOn (power : PowerUp)
  /-- RESET_ASSERT (R193). -/
  | resetAssert
  /-- RESET_RELEASE (R193). -/
  | resetRelease (straps : Straps)
  /-- TRUNK_WORD (R2): the word arriving on the trunk input. -/
  | trunkWord (w : Word)
  /-- LOCAL_TICK (R9); `watchdogFirst` orders the trunk watchdog and the other users of the tick. -/
  | localTick (watchdogFirst : Bool)
  /-- HEALTH_LOST (R11): the local tick at which the silent run reaches 20. -/
  | healthLost (watchdogFirst : Bool)
  /-- HEALTH_RESTORED (R12): the local tick at which the restore run reaches 200. -/
  | healthRestored (watchdogFirst : Bool)
  /-- OUTPUT_FRAME (R95). -/
  | outputFrame (order : FrameOrder)
  /-- METER_BLOCK_END (R16): the output frame at which the block position reaches 256. -/
  | meterBlockEnd (order : FrameOrder)
  /-- SILENCE_END (R146): the output frame at whose block end the silence run reaches the hold. -/
  | silenceEnd (order : FrameOrder)
  /-- FADE_SWITCH (R84): the output frame at which the record's fade gain reaches 0 in OUT. -/
  | fadeSwitch (record : Fin 65) (order : FrameOrder)
  /-- FADE_IN_COMPLETE (R84): the output frame at which the record's fade gain reaches 32767 in IN. -/
  | fadeInComplete (record : Fin 65) (order : FrameOrder)
  /-- SEAT_REPLY_WORD (R61): a word arriving on a line's upstream pair. -/
  | seatReplyWord (line : Fin 4) (w : Word)
  /-- JACK_CONFIRMED (R67): the reply word at whose judgement a class is confirmed. -/
  | jackConfirmed (line : Fin 4) (w : Word)
  /-- BOX_LOST (R64): the output frame at whose beginning the line's missed poll makes its box LOST. -/
  | boxLost (line : Fin 4) (order : FrameOrder)
  /-- BOX_REGAINED (R64): the reply word at whose judgement a LOST box becomes REACHABLE. -/
  | boxRegained (line : Fin 4) (w : Word)
  /-- CALL_HOLDOFF_EXPIRY (R82): the local tick that brings the record's holdoff from 1 to 0. -/
  | callHoldoffExpiry (record : Fin 65) (watchdogFirst : Bool)
  /-- RETURN_IN_WORD (R34): a word arriving on return-in. -/
  | returnInWord (w : Word)
  /-- LIGHT_TICK (R172). -/
  | lightTick
  /-- OVERLAY_END (R171): the light tick at which the zone's overlay runs out of cycles. -/
  | overlayEnd (zone : Fin 16)
  /-- ROUTE_TICK (R117). -/
  | routeTick
  /-- POSITION_STALE (R118): the route tick that brings the age to 151. -/
  | positionStale
  /-- ANNOUNCE_CUE (R141): the conditions of R140 are examined and the front entry is cued. -/
  | announceCue
  /-- NOT_BEFORE_REACHED (R140): the local tick at which the front entry's not-before time is reached. -/
  | notBeforeReached (watchdogFirst : Bool)
  /-- CHIME_NOTE_END (R156): the output frame that is the last of a note with a note after it. -/
  | chimeNoteEnd (order : FrameOrder)
  /-- CHIME_END (R156): the output frame that is the last of the last note. -/
  | chimeEnd (order : FrameOrder)
  /-- CUE_TIMEOUT (R147): the local tick at which the cue timer reaches the cue timeout. -/
  | cueTimeout (watchdogFirst : Bool)
  /-- MAX_PLAY_TIME (R147): the local tick at which the play timer reaches 60,000 ms. -/
  | maxPlayTime (watchdogFirst : Bool)
  /-- TRAILING_END (R152): the output frame at which a TRAILING entry sees the duck gain at 32767. -/
  | trailingEnd (order : FrameOrder)
  /-- AMBIENT_SAMPLE (R180): the converter's reading. -/
  | ambientSample (x : BitVec 8)
  /-- BAND_CONFIRMED (R182): the sample at which a band is confirmed. -/
  | bandConfirmed (x : BitVec 8)
  /-- SENSOR_JUDGED_INVALID (R182): the sample at which the invalid run becomes 3. -/
  | sensorJudgedInvalid (x : BitVec 8)
  /-- UNKNOWN_MESSAGE (R26): a message whose kind is no control message's. -/
  | unknownMessage (head : MsgHead) (kind : BitVec 6) (payload : List Word)
  /-- SET_LANE (R51). -/
  | setLane (head : MsgHead) (payload : List Word)
  /-- SET_CAROUSEL (R53). -/
  | setCarousel (head : MsgHead) (payload : List Word)
  /-- READ_LANES (R55). -/
  | readLanes (head : MsgHead) (payload : List Word)
  /-- SET_SEAT_LINE (R70). -/
  | setSeatLine (head : MsgHead) (payload : List Word)
  /-- READ_LINE (R73). -/
  | readLine (head : MsgHead) (payload : List Word)
  /-- SET_SEAT (R88). -/
  | setSeat (head : MsgHead) (payload : List Word)
  /-- SET_SEAT_RANGE (R90). -/
  | setSeatRange (head : MsgHead) (payload : List Word)
  /-- READ_SEAT (R92). -/
  | readSeat (head : MsgHead) (payload : List Word)
  /-- SET_AUDIO (R107). -/
  | setAudio (head : MsgHead) (payload : List Word)
  /-- SET_ROUTE (R111). -/
  | setRoute (head : MsgHead) (payload : List Word)
  /-- WRITE_STOPS (R121). -/
  | writeStops (head : MsgHead) (payload : List Word)
  /-- READ_STOPS (R123). -/
  | readStops (head : MsgHead) (payload : List Word)
  /-- POSITION_FIX (R114, R116): a Position whose valid flag (bit 15 of word 3) is 1; `w3` is bits 14–0 of word 3. -/
  | positionFix (head : MsgHead) (w1 w2 : Word) (w3 : BitVec 15) (rest : List Word)
  /-- POSITION_INVALID (R115): a Position whose valid flag is 0. -/
  | positionInvalid (head : MsgHead) (w1 w2 : Word) (w3 : BitVec 15) (rest : List Word)
  /-- TOUR_START (R132): Tour with action word 0, `rest` the words after it. -/
  | tourStart (head : MsgHead) (rest : List Word)
  /-- TOUR_PAUSE (R133): Tour with action word 1. -/
  | tourPause (head : MsgHead) (rest : List Word)
  /-- TOUR_RESUME (R133): Tour with action word 2. -/
  | tourResume (head : MsgHead) (rest : List Word)
  /-- TOUR_END (R134): Tour with action word 3. -/
  | tourEnd (head : MsgHead) (rest : List Word)
  /-- ANNOUNCE (R159). -/
  | announce (head : MsgHead) (payload : List Word)
  /-- CLIP_START (R144). -/
  | clipStart (head : MsgHead) (payload : List Word)
  /-- CLIP_END (R145). -/
  | clipEnd (head : MsgHead) (payload : List Word)
  /-- CANCEL_TICKET (R151): Cancel with mode word 0, `rest` the words after it. -/
  | cancelTicket (head : MsgHead) (rest : List Word)
  /-- CANCEL_ENTRY (R151): Cancel with mode word 1. -/
  | cancelEntry (head : MsgHead) (rest : List Word)
  /-- CANCEL_ALL (R151): Cancel with mode word 2. -/
  | cancelAll (head : MsgHead) (rest : List Word)
  /-- SET_CHIME (R157). -/
  | setChime (head : MsgHead) (payload : List Word)
  /-- SET_ANNOUNCE (R160). -/
  | setAnnounce (head : MsgHead) (payload : List Word)
  /-- READ_QUEUE (R161). -/
  | readQueue (head : MsgHead) (payload : List Word)
  /-- SET_SCENE (R174). -/
  | setScene (head : MsgHead) (payload : List Word)
  /-- SET_PATTERN (R175). -/
  | setPattern (head : MsgHead) (payload : List Word)
  /-- APPLY_SCENE (R176). -/
  | applyScene (head : MsgHead) (payload : List Word)
  /-- SET_ZONES (R176). -/
  | setZones (head : MsgHead) (payload : List Word)
  /-- READ_ZONES (R178). -/
  | readZones (head : MsgHead) (payload : List Word)
  /-- SET_CUE (R188). -/
  | setCue (head : MsgHead) (payload : List Word)
  /-- MARKER (R189). -/
  | marker (head : MsgHead) (payload : List Word)
  /-- READ_CUES (R190). -/
  | readCues (head : MsgHead) (payload : List Word)
  /-- SET_AMBIENT (R183). -/
  | setAmbient (head : MsgHead) (payload : List Word)
  /-- READ_STATUS (R39): Read Status whose option bit 0 is 0; `opts` is bits 15–1 of the option word. -/
  | readStatus (head : MsgHead) (opts : BitVec 15) (rest : List Word)
  /-- READ_STATUS_CLEAR (R39): Read Status whose option bit 0 is 1. -/
  | readStatusClear (head : MsgHead) (opts : BitVec 15) (rest : List Word)
  /-- SET_NOTICES (R38). -/
  | setNotices (head : MsgHead) (payload : List Word)
  /-- CLEAR_NOTICES (R38). -/
  | clearNotices (head : MsgHead) (payload : List Word)
  /-- READ_NOTICES (R38). -/
  | readNotices (head : MsgHead) (payload : List Word)
  /-- SET_PROFILE (R40). -/
  | setProfile (head : MsgHead) (payload : List Word)
  /-- RESTART (R41). -/
  | restart (head : MsgHead) (payload : List Word)
  deriving DecidableEq, Repr

end Sys2Proof
end

