-- ==== Sys2Proof/Decode.lean ====
section
/-! DEFINITION. The command a word spells by the bits of spec/opcode_table.json. The table gives its rows no bits
("fields" is empty in every row): the commands come to the block as words on its ports, pins and timers, not as
encoded instructions, so no word spells a command. The header word of a control message, whose bits R21 gives, is
taken apart in Machine/Operands.lean. -/

namespace Sys2Proof

/-- The command that the bits `w` of a row spell: none, since no row of the table gives bits. -/
def decodeTableWord (_nbits _w : Nat) : Option Instr := none

end Sys2Proof
end

