-- ==== Sys2Proof/Config.lean ====
section
/-! DEFINITION. The constants that the manual fixes for every part, and the one thing it leaves to the
board: the levels of the strap pins at the model's own reset. The manual leaves no value of an operation
open, so this file holds no free value (see notes/assumptions/12.md and 13.md for the orders it leaves open,
which are operands of the commands). -/

namespace Sys2Proof.Config

/-- Consecutive local ticks without a good frame at which health falls (R9). -/
def silentLimit : Nat := 20

/-- Consecutive local ticks with a good frame at which health rises (R10). -/
def restoreLimit : Nat := 200

/-- Frames the elastic store holds (R13). -/
def storeDepth : Nat := 4

/-- Output frames in a meter block (R15). -/
def meterBlock : Nat := 256

/-- Payload words of the message buffer (section 2.2). -/
def messageWords : Nat := 64

/-- Reports of the report queue (R31). -/
def reportDepth : Nat := 16

/-- Words of the hold buffer (R35). -/
def holdDepth : Nat := 32

/-- Missed polls in a row at which a box is LOST (R64). -/
def missLimit : Nat := 16

/-- Valid replies in a row at which a LOST box is REACHABLE (R64). -/
def goodLimit : Nat := 4

/-- The call holdoff in ms (R82). -/
def callHoldoff : Nat := 2000

/-- The crossfade step per output frame (R84). -/
def fadeStep : Nat := 128

/-- The volume ramp step per output frame (R104). -/
def volumeStep : Nat := 64

/-- The largest Q15 gain (00_scope.md, Conventions). -/
def fullGain : Nat := 32767

/-- Entries of the announcement queue (R137). -/
def queueDepth : Nat := 6

/-- The fixed maximum play time in ms (R147). -/
def maxPlayTime : Nat := 60000

/-- Entries of the stop table (R120). -/
def stopDepth : Nat := 120

/-- The age from which the position status is DEAD_RECKONED (R118). -/
def freshAges : Nat := 50

/-- The last age at which the estimate still moves (R117, R118). -/
def trustedAges : Nat := 150

/-- The highest speed a fix is taken with, cm/s (R114). -/
def speedLimit : Nat := 2500

/-- INVALID samples in a row at which the sensor is judged INVALID (R182). -/
def invalidLimit : Nat := 3

/-- DESIGN CHOICE (unsafe, notes/assumptions/4.md): the strap levels behind `State.reset`; the manual
samples pins (R192) and names no level. Unit number 0. -/
def resetUnit : BitVec 2 := 0#2

/-- DESIGN CHOICE (unsafe, notes/assumptions/4.md): the PROF strap behind `State.reset` is low, STRICT. -/
def resetProfHigh : Bool := false

end Sys2Proof.Config
end

