-- ==== Sys2Proof/Machine/State.lean ====
section
/-! DEFINITION. The state of the block as plain data: every register, store, buffer, counter, table and pin the
manual gives it, its power-on values, and `State.reset`. Widths, rules and reset values line by line:
INVENTORY.md, heading State. -/

namespace Sys2Proof.Machine

/-- The reasons a step stops with a fault. None: the manual gives every command of the table an effect in every
state, and names no fault, so no step of this model faults (safe: nothing is cut short). -/
inductive Fault where
  deriving DecidableEq, Repr

/-- The reasons a step is refused. -/
inductive Refusal where
  /-- Raised by an arm of `exec` whose command has no meaning yet (safe). No arm of this model raises it. -/
  | notModelled (mnemonic : String)
  deriving DecidableEq, Repr

/-! ## Pins and management -/

/-- The check profile (R27). -/
inductive Profile where
  | strict
  | lenient
  deriving DecidableEq, Repr

/-- Whether the part runs (R193). -/
inductive RunPhase where
  /-- Power is applied and the power-on values do not stand yet. -/
  | powering
  /-- The reset pin is held. -/
  | reset
  /-- The part runs. -/
  | running
  deriving DecidableEq, Repr

/-- The reset pin and what the straps set (R192, R193). -/
structure Pins where
  /-- The reset pin, and whether the power-on values stand (R193). -/
  phase : RunPhase
  /-- The return output passes return-in through (R193). -/
  passThrough : Bool
  /-- The own unit number, from the straps (R192). -/
  unit : BitVec 2
  /-- The check profile: from the straps (R192), replaced by Set Profile (R40). -/
  profile : Profile
  deriving DecidableEq, Repr

/-- The part is held: the reset pin is held or, from the application of power, the power-on values do not stand yet
(R193). -/
def Pins.held (p : Pins) : Bool := p.phase != .running

/-- What the I2S PA output sends in an output frame: one 16-bit word in each channel slot (R101). -/
structure PaFrame where
  left : Word
  right : Word
  deriving DecidableEq, Repr

/-- A sample as the PA output sends it: the same word in both slots (R101). -/
def PaFrame.both (w : Word) : PaFrame := ⟨w, w⟩

/-- What stands on the outputs: the last thing sent on each (R17, R32, R58, R101, R173). -/
structure Outputs where
  /-- The last word sent on trunk-out (R17), none before the first. -/
  trunkOut : Option Word
  /-- The words last sent on the return output: a return frame (R32) or one word passed through (R193). -/
  returnOut : List Word
  /-- Per line, the seat frame (R58) of the last output frame, empty where the line sent nothing. -/
  seatOut : Vector (List Word) 4
  /-- The two channel slots of the PA output in the last output frame (R101). -/
  paOut : PaFrame
  /-- The last light frame (R173), empty before the first. -/
  lightOut : List Word
  deriving DecidableEq, Repr

/-! ## The trunk -/

/-- The lock states of the trunk receiver (section 1.2) and of return-in (R34). -/
inductive LockState where
  | hunt
  | verify
  | locked
  | flywheel
  deriving DecidableEq, Repr

/-- A frame lock: lock state, word position, missing-sync run, and the words of the frame so far, which the receiver
holds until the frame is judged (section 1.3). -/
structure FrameLock where
  lock : LockState
  pos : Nat
  missRun : Nat
  words : List Word
  deriving DecidableEq, Repr

/-- A frame of lane audio: presence mask and twelve samples (R1, R6). -/
structure LaneFrame where
  mask : BitVec 12
  samples : Vector Int 12
  deriving DecidableEq, Repr

/-- The all-absent frame (R8, R14). -/
def LaneFrame.absent : LaneFrame := ⟨0, Vector.replicate 12 0⟩

/-- The trunk receiver (R2 to R8). -/
structure TrunkRx where
  rx : FrameLock
  lastGood : LaneFrame
  lastSeq : BitVec 4
  badRun : Nat
  deriving DecidableEq, Repr

/-- Trunk health (section 1.4). -/
inductive Health where
  | lost
  | ok
  deriving DecidableEq, Repr

/-- The trunk watchdog (R9, R10): health, its two runs, and whether a good frame has been judged since the last
local tick. -/
structure Watchdog where
  health : Health
  silentRun : Nat
  restoreRun : Nat
  goodInTick : Bool
  deriving DecidableEq, Repr

/-- The elastic store and its output side (R13, R14). -/
structure Store where
  frames : List LaneFrame
  primed : Bool
  last : LaneFrame
  deriving DecidableEq, Repr

/-- The four trunk counters (R18). -/
structure Counters where
  badFrames : Nat
  sequenceGaps : Nat
  repeatSlips : Nat
  dropSlips : Nat
  deriving DecidableEq, Repr

/-- The lane meter of one lane (R15, R16). -/
structure LaneMeter where
  peak : Nat
  level : Nat
  quiet : Bool
  deriving DecidableEq, Repr

/-- The lane meter (R15, R16). -/
structure Meter where
  lanes : Vector LaneMeter 12
  blockPos : Nat
  deriving DecidableEq, Repr

/-! ## Messages, reports, notices and the return link -/

/-- The decoder states (section 2.2). -/
inductive DecoderState where
  | outside
  | inMessage
  | discard
  deriving DecidableEq, Repr

/-- The message decoder (section 2.2). The header-taken flag is `header.isSome`. -/
structure Decoder where
  state : DecoderState
  esc : Bool
  header : Option Word
  payload : List Word
  wordLost : Bool
  garbled : Nat
  deriving DecidableEq, Repr

/-- A report waiting in the report queue: kind, tag and payload words (R30). -/
structure Report where
  kind : BitVec 6
  tag : BitVec 4
  payload : List Word
  deriving DecidableEq, Repr

/-- The report queue and the report loss counter (R31). -/
structure ReportQueue where
  queue : List Report
  lost : Nat
  deriving DecidableEq, Repr

/-- The notice unit: twelve causes and twelve enables (R37). -/
structure Notices where
  causes : BitVec 12
  enables : BitVec 12
  deriving DecidableEq, Repr

/-- The states of the return-in tracker (R35). -/
inductive TrackState where
  | outside
  | inMessage
  | skip
  deriving DecidableEq, Repr

/-- One message of the hold buffer: its held words not yet forwarded, whether its end has been seen, and its truncated
mark (R35). -/
structure HeldMessage where
  words : List Word
  closed : Bool
  truncated : Bool
  deriving DecidableEq, Repr

/-- The return-in receiver, the tracker and the hold buffer (R34, R35). -/
structure ReturnIn where
  rx : FrameLock
  status : Vector Word 4
  attention : Word
  track : TrackState
  esc : Bool
  hold : List HeldMessage
  deriving DecidableEq, Repr

/-- The turn mark (R36). -/
inductive Turn where
  | none
  | localNext
  | downstreamNext
  deriving DecidableEq, Repr

/-- What the return transmitter is doing (R36). -/
inductive TxMode where
  /-- IDLE. -/
  | idle
  /-- LOCAL, with the coded words still to be sent. -/
  | sending (rest : List Word)
  /-- FORWARD; `afterEsc` when the last word sent was an ESC whose partner is next. -/
  | forward (afterEsc : Bool)
  /-- FORWARD, with the second word of the ABT pair of a truncated message still to be sent. -/
  | abandon
  deriving DecidableEq, Repr

/-- The return transmitter (R36). -/
structure Transmitter where
  mode : TxMode
  turn : Turn
  deriving DecidableEq, Repr

/-! ## The programme map -/

/-- The kinds of a lane (R43). -/
inductive LaneKind where
  | unused
  | commentary
  | announce
  | bed
  deriving DecidableEq, Repr

/-- One entry of the lane table (R43). -/
structure LaneEntry where
  kind : LaneKind
  tag : Nat
  trim : Nat
  silence : Nat
  deriving DecidableEq, Repr

/-- The lane table and the language carousel (R43, R46). -/
structure Programme where
  lanes : Vector LaneEntry 12
  carousel : List Nat
  deriving DecidableEq, Repr

/-! ## Seat lines -/

/-- The reach states of a box (R64). -/
inductive Reach where
  | unknown
  | reachable
  | lost
  deriving DecidableEq, Repr

/-- The classes of a jack reading (R65): NONE is `unplugged`. -/
inductive JackClass where
  | unplugged
  | headset
  | short
  deriving DecidableEq, Repr

/-- One box (R63, R64). -/
structure BoxState where
  reach : Reach
  missRun : Nat
  goodRun : Nat
  deriving DecidableEq, Repr

/-- The classification state of one seat (R65 to R67); `confirmed = none` is UNKNOWN, `candidate = none` is no
candidate. -/
structure SeatJack where
  confirmed : Option JackClass
  candidate : Option JackClass
  run : Nat
  level : Nat
  deriving DecidableEq, Repr

/-- An open reply window (R61): the polled box, the words taken (at most four), and whether the poll is judged. -/
structure Poll where
  box : Fin 8
  words : List Word
  judged : Bool
  deriving DecidableEq, Repr

/-- One seat line (R57). The jack of box b, side d has index 2b + d. -/
structure SeatLine where
  enabled : Bool
  openThreshold : Nat
  shortThreshold : Nat
  debounce : Nat
  pollPos : Fin 8
  poll : Option Poll
  boxes : Vector BoxState 8
  jacks : Vector SeatJack 16
  deriving DecidableEq, Repr

/-! ## Seats and mixer -/

/-- The fade phases (R75): OUT is `fadeOut`, IN is `fadeIn`. -/
inductive FadePhase where
  | steady
  | fadeOut
  | fadeIn
  deriving DecidableEq, Repr

/-- The PA source (R75, R77). -/
inductive PaSource where
  | off
  | commentary
  | announceOnly
  deriving DecidableEq, Repr

/-- One seat record (R75); `language = none` is NONE, `sounding = none` is absent. -/
structure SeatRecord where
  enabled : Bool
  language : Option Nat
  sounding : Option (Fin 12)
  phase : FadePhase
  fade : Nat
  step : Nat
  languageLock : Bool
  volumeLock : Bool
  holdoff : Nat
  deriving DecidableEq, Repr

/-- The seat table: 65 records, the PA record last, and the PA source (R75). -/
structure SeatTable where
  records : Vector SeatRecord 65
  paSource : PaSource
  deriving DecidableEq, Repr

/-- The seven audio settings (R107). -/
structure AudioSettings where
  duckDepth : Nat
  attack : Nat
  release : Nat
  headsetCeiling : Nat
  paCeiling : Nat
  announceFloor : Nat
  defaultStep : Nat
  deriving DecidableEq, Repr

/-- The mixer: duck gain, volume gains and audio settings (chapter 6). -/
structure Mixer where
  duck : Nat
  volumes : Vector Nat 65
  audio : AudioSettings
  deriving DecidableEq, Repr

/-! ## The route -/

/-- The position status (R113). -/
inductive PositionStatus where
  | invalid
  | fresh
  | deadReckoned
  | stale
  deriving DecidableEq, Repr

/-- The lap state of a stop (R120). -/
inductive LapState where
  | pending
  | approached
  | arrived
  | passed
  deriving DecidableEq, Repr

/-- The tour session (R131). -/
inductive Session where
  | idle
  | running
  | layover
  deriving DecidableEq, Repr

/-- The repeat policies (R120, R153). -/
inductive RepeatPolicy where
  | once
  | count
  | whileHalted
  | countWhileHalted
  deriving DecidableEq, Repr

/-- One entry of the stop table (R120). -/
structure Stop where
  number : Nat
  metre : Nat
  approach : Nat
  radius : Nat
  approachFlag : Bool
  arrivalFlag : Bool
  priority : Nat
  policy : RepeatPolicy
  count : Nat
  lap : LapState
  deriving DecidableEq, Repr

/-- The route tracker (R111, R113, R120, R131). -/
structure Route where
  length : Nat
  loop : Bool
  tolerance : Nat
  haltSpeed : Nat
  estimate : Nat
  remainder : Nat
  speed : Nat
  age : Nat
  status : PositionStatus
  seeded : Bool
  laps : Nat
  stops : List Stop
  session : Session
  deriving DecidableEq, Repr

/-! ## Announcements -/

/-- The kinds of an announcement entry (R136). -/
inductive EntryKind where
  | approach
  | arrival
  | general
  deriving DecidableEq, Repr

/-- The states of an announcement entry (R136). -/
inductive EntryState where
  | waiting
  | cued
  | playing
  | trailing
  deriving DecidableEq, Repr

/-- The reasons of R158. -/
inductive Reason where
  | clipEnd
  | silence
  | timeout
  | maxTime
  | noLanes
  | trunk
  | cancelled
  | tour
  | preempted
  | stale
  deriving DecidableEq, Repr

/-- A (language, lane) pair of a plan (R142). -/
structure PlanPair where
  language : Nat
  lane : Fin 12
  deriving DecidableEq, Repr

/-- An announcement entry (R136); `plan = none` is absent. -/
structure Entry where
  kind : EntryKind
  subject : Nat
  priority : Nat
  policy : RepeatPolicy
  count : Nat
  notBefore : Option Nat
  entryTime : Nat
  state : EntryState
  ticket : Nat
  plan : Option (List PlanPair)
  clipStarted : Bool
  heard : Bool
  reason : Option Reason
  deriving DecidableEq, Repr

/-- One note of a chime slot (R155). -/
structure Note where
  divider : Nat
  duration : Nat
  level : Nat
  deriving DecidableEq, Repr

/-- The chime generator when it is sounding (R156): the slot it was started from, the copied notes, the index of the
note sounding and the frame index within it. -/
structure Chime where
  slot : Fin 4
  notes : List Note
  note : Nat
  frame : Nat
  deriving DecidableEq, Repr

/-- The announcement controller (chapter 8); the queue is in queue order, `chime = none` is idle. -/
structure Announcer where
  queue : List Entry
  ticket : Nat
  cueTimer : Nat
  playTimer : Nat
  silenceRun : Nat
  chime : Option Chime
  slots : Vector (List Note) 4
  cueTimeout : Nat
  silenceHold : Nat
  replayGap : Nat
  haltUse : Bool
  deriving DecidableEq, Repr

/-! ## Lighting -/

/-- An overlay (R163); `cycles` is the cycles remaining, 0 endless. -/
structure Overlay where
  pattern : Fin 4
  onLevel : Nat
  offLevel : Nat
  step : Nat
  tick : Nat
  cycles : Nat
  deriving DecidableEq, Repr

/-- A zone record (R163). -/
structure Zone where
  base : Nat
  fadeStep : Nat
  overlay : Option Overlay
  current : Nat
  deriving DecidableEq, Repr

/-- A ring range (first, last) of zones (R164). -/
structure ZoneRange where
  first : Fin 16
  last : Fin 16
  deriving DecidableEq, Repr

/-- An item of a scene (R167). -/
structure SceneItem where
  range : ZoneRange
  level : Nat
  fade : Nat
  deriving DecidableEq, Repr

/-- A defined pattern (R169). -/
structure Pattern where
  mask : Word
  length : Nat
  cycles : Nat
  deriving DecidableEq, Repr

/-- The light controller (chapter 9). -/
structure Lights where
  zones : Vector Zone 16
  scenes : Vector (List SceneItem) 16
  current : Option (Fin 16)
  patterns : Vector (Option Pattern) 4
  floor : Nat
  release : Nat
  deriving DecidableEq, Repr

/-! ## Cues and the ambient light input -/

/-- The trigger kinds (R184). -/
inductive TriggerKind where
  | marker
  | announceCued
  | announcePlaying
  | announceEnded
  | stopApproach
  | stopArrived
  | ambientBand
  | trunkLost
  | trunkRestored
  | tour
  deriving DecidableEq, Repr

/-- A raised trigger: its kind and value, 0 where the kind has no parameter (R184). -/
structure Trigger where
  kind : TriggerKind
  value : Nat
  deriving DecidableEq, Repr

/-- The actions of a cue (R186). -/
inductive CueAction where
  | scene (scene : Fin 16)
  | overlay (range : ZoneRange) (pattern : Fin 4) (onLevel offLevel : Nat)
  | clear (range : ZoneRange)
  | headsetCeiling (step : Nat)
  | paCeiling (step : Nat)
  | paSource (source : PaSource)
  | duckDepth (depth : Nat)
  | announce (phrase priority : Nat) (policy : RepeatPolicy) (count : Nat)
  deriving DecidableEq, Repr

/-- A cue entry (R184 to R186): mask bit 0 LESS, 1 EQUAL, 2 GREATER, 3 UNORDERED. -/
structure Cue where
  enabled : Bool
  trigger : TriggerKind
  param : Nat
  mask : BitVec 4
  threshold : Nat
  action : CueAction
  deriving DecidableEq, Repr

/-- The bands of the ambient light (R181); INVALID is the absence of one. -/
inductive Band where
  | dark
  | dusk
  | day
  | bright
  deriving DecidableEq, Repr

/-- The ambient state and settings (R180, R183). -/
structure Ambient where
  last : Nat
  smoothed : Option Nat
  candidate : Option Band
  run : Nat
  invalidRun : Nat
  confirmed : Option Band
  t1 : Nat
  t2 : Nat
  t3 : Nat
  dwell : Nat
  deriving DecidableEq, Repr

/-- The cue unit (chapter 10). -/
structure CueUnit where
  table : Vector Cue 32
  ambient : Ambient
  deriving DecidableEq, Repr

/-! ## The state -/

/-- The state of the block, and the queue of commands that wait. -/
structure State where
  pending : List Instr
  now : Nat
  pins : Pins
  out : Outputs
  trunk : TrunkRx
  dog : Watchdog
  store : Store
  counters : Counters
  meter : Meter
  decoder : Decoder
  reports : ReportQueue
  notices : Notices
  ret : ReturnIn
  tx : Transmitter
  prog : Programme
  lines : Vector SeatLine 4
  seats : SeatTable
  mixer : Mixer
  route : Route
  ann : Announcer
  lights : Lights
  cues : CueUnit
  deriving DecidableEq, Repr

/-! ## Power-on values -/

/-- The profile a PROF level stands for (R192). -/
def profileOfStrap (profHigh : Bool) : Profile := if profHigh then .lenient else .strict

/-- Nothing has been sent yet; the PA output carries 0 (R193). -/
def Outputs.initial : Outputs := ⟨none, [], Vector.replicate 4 [], PaFrame.both 0, []⟩

/-- HUNT with the position and the missing-sync run at 0 (R19, R42). -/
def FrameLock.initial : FrameLock := ⟨.hunt, 0, 0, []⟩

/-- R19. -/
def TrunkRx.initial : TrunkRx := ⟨FrameLock.initial, LaneFrame.absent, 0, 1⟩

/-- R19. -/
def Watchdog.initial : Watchdog := ⟨.lost, 0, 0, false⟩

/-- R19. -/
def Store.initial : Store := ⟨[], false, LaneFrame.absent⟩

/-- R19. -/
def Counters.zero : Counters := ⟨0, 0, 0, 0⟩

/-- R16, R19. -/
def Meter.initial : Meter := ⟨Vector.replicate 12 ⟨0, 0, true⟩, 0⟩

/-- The decoder OUTSIDE with an empty buffer and the garbled counter at `g` (R42). -/
def Decoder.idle (g : Nat) : Decoder := ⟨.outside, false, none, [], false, g⟩

/-- R42. -/
def ReportQueue.empty : ReportQueue := ⟨[], 0⟩

/-- R37, R42. -/
def Notices.clear : Notices := ⟨0, 0⟩

/-- R42. -/
def ReturnIn.initial : ReturnIn := ⟨FrameLock.initial, Vector.replicate 4 0, 0, .outside, false, []⟩

/-- R42. -/
def Transmitter.initial : Transmitter := ⟨.idle, .none⟩

/-- R44. -/
def LaneEntry.initial : LaneEntry := ⟨.unused, 0, 32767, 4⟩

/-- R44, R47. -/
def Programme.initial : Programme := ⟨Vector.replicate 12 LaneEntry.initial, []⟩

/-- R74. -/
def BoxState.initial : BoxState := ⟨.unknown, 0, 0⟩

/-- R74. -/
def SeatJack.initial : SeatJack := ⟨none, none, 0, 0⟩

/-- A line's settings with its runtime state as R71 and R74 give it after a disable, a Restart or power-on. -/
def SeatLine.cleared (enabled : Bool) (openT shortT debounce : Nat) : SeatLine :=
  ⟨enabled, openT, shortT, debounce, 0, none, Vector.replicate 8 BoxState.initial,
    Vector.replicate 16 SeatJack.initial⟩

/-- R74. -/
def SeatLine.initial : SeatLine := SeatLine.cleared true 220 24 64

/-- R93. -/
def SeatRecord.initial : SeatRecord := ⟨true, none, none, .steady, 32767, 9, false, false, 0⟩

/-- R93. -/
def SeatTable.initial : SeatTable := ⟨Vector.replicate 65 SeatRecord.initial, .commentary⟩

/-- R107. -/
def AudioSettings.initial : AudioSettings := ⟨2, 32, 8, 15, 12, 9, 9⟩

/-- R110. -/
def Mixer.initial : Mixer := ⟨32767, Vector.replicate 65 8231, AudioSettings.initial⟩

/-- R111, R135. -/
def Route.initial : Route := ⟨65535, false, 50, 50, 0, 0, 0, 0, .invalid, false, 0, [], .idle⟩

/-- R160, R162. -/
def Announcer.initial : Announcer := ⟨[], 0, 0, 0, 0, none, Vector.replicate 4 [], 2000, 640, 2000, true⟩

/-- R179. -/
def Zone.initial : Zone := ⟨0, 18, none, 0⟩

/-- R167, R169, R179. -/
def Lights.initial : Lights :=
  ⟨Vector.replicate 16 Zone.initial, Vector.replicate 16 [], none, Vector.replicate 4 none, 512, 300⟩

/-- R191. -/
def Cue.initial : Cue := ⟨false, .marker, 0, 0, 0, .scene 0⟩

/-- R183, R191. -/
def Ambient.initial : Ambient := ⟨0, none, none, 0, 0, none, 32, 96, 192, 10⟩

/-- R191. -/
def CueUnit.initial : CueUnit := ⟨Vector.replicate 32 Cue.initial, Ambient.initial⟩

/-- The pins with the straps sampled (R192), the reset pin released. -/
def Pins.sampled (straps : Straps) (passThrough : Bool) : Pins :=
  ⟨.running, passThrough, straps.unit, profileOfStrap straps.profHigh⟩

/-- The machine at its power-on values, with the given commands waiting. -/
def State.powerOn (pending : List Instr) (pins : Pins) (out : Outputs) : State where
  pending := pending
  now := 0
  pins := pins
  out := out
  trunk := TrunkRx.initial
  dog := Watchdog.initial
  store := Store.initial
  counters := Counters.zero
  meter := Meter.initial
  decoder := Decoder.idle 0
  reports := ReportQueue.empty
  notices := Notices.clear
  ret := ReturnIn.initial
  tx := Transmitter.initial
  prog := Programme.initial
  lines := Vector.replicate 4 SeatLine.initial
  seats := SeatTable.initial
  mixer := Mixer.initial
  route := Route.initial
  ann := Announcer.initial
  lights := Lights.initial
  cues := CueUnit.initial

/-- The machine right after reset: the power-on values, no command waiting, the reset pin released, the straps at the
levels of Config (notes/assumptions/4.md). -/
def State.reset : State :=
  State.powerOn [] (Pins.sampled ⟨Config.resetUnit, Config.resetProfHigh⟩ false) Outputs.initial

/-! ## Updates, one per field -/

/-- `s` with the waiting commands `x`. -/
def State.withPending (s : State) (x : List Instr) : State := { s with pending := x }
/-- `s` with the local time `x`. -/
def State.withNow (s : State) (x : Nat) : State := { s with now := x }
/-- `s` with the pins `x`. -/
def State.withPins (s : State) (x : Pins) : State := { s with pins := x }
/-- `s` with the outputs `x`. -/
def State.withOut (s : State) (x : Outputs) : State := { s with out := x }
/-- `s` with the trunk receiver `x`. -/
def State.withTrunk (s : State) (x : TrunkRx) : State := { s with trunk := x }
/-- `s` with the watchdog `x`. -/
def State.withDog (s : State) (x : Watchdog) : State := { s with dog := x }
/-- `s` with the elastic store `x`. -/
def State.withStore (s : State) (x : Store) : State := { s with store := x }
/-- `s` with the trunk counters `x`. -/
def State.withCounters (s : State) (x : Counters) : State := { s with counters := x }
/-- `s` with the lane meter `x`. -/
def State.withMeter (s : State) (x : Meter) : State := { s with meter := x }
/-- `s` with the decoder `x`. -/
def State.withDecoder (s : State) (x : Decoder) : State := { s with decoder := x }
/-- `s` with the report queue `x`. -/
def State.withReports (s : State) (x : ReportQueue) : State := { s with reports := x }
/-- `s` with the notices `x`. -/
def State.withNotices (s : State) (x : Notices) : State := { s with notices := x }
/-- `s` with return-in `x`. -/
def State.withRet (s : State) (x : ReturnIn) : State := { s with ret := x }
/-- `s` with the return transmitter `x`. -/
def State.withTx (s : State) (x : Transmitter) : State := { s with tx := x }
/-- `s` with the programme map `x`. -/
def State.withProg (s : State) (x : Programme) : State := { s with prog := x }
/-- `s` with the seat lines `x`. -/
def State.withLines (s : State) (x : Vector SeatLine 4) : State := { s with lines := x }
/-- `s` with the seat table `x`. -/
def State.withSeats (s : State) (x : SeatTable) : State := { s with seats := x }
/-- `s` with the mixer `x`. -/
def State.withMixer (s : State) (x : Mixer) : State := { s with mixer := x }
/-- `s` with the route tracker `x`. -/
def State.withRoute (s : State) (x : Route) : State := { s with route := x }
/-- `s` with the announcement controller `x`. -/
def State.withAnn (s : State) (x : Announcer) : State := { s with ann := x }
/-- `s` with the light controller `x`. -/
def State.withLights (s : State) (x : Lights) : State := { s with lights := x }
/-- `s` with the cue unit `x`. -/
def State.withCues (s : State) (x : CueUnit) : State := { s with cues := x }

end Sys2Proof.Machine
end

