-- ==== Sys2Proof/Machine/Flags.lean ====
section
/-! DEFINITION. The notice unit (section 2.7): setting causes, and attention. -/

namespace Sys2Proof.Machine

/-- The twelve notice causes, in bit order (R37). -/
inductive Cause where
  | trunkLost
  | trunkRestored
  | badFrames
  | slip
  | controlGarbled
  | reportLost
  | boxLost
  | boxRegained
  | jackFault
  | sensorInvalid
  | positionStale
  | returnHoldOverflow
  deriving DecidableEq, Repr

/-- The bit of a cause in every mask (R37). -/
def causeBit : Cause → Nat
  | .trunkLost => 0
  | .trunkRestored => 1
  | .badFrames => 2
  | .slip => 3
  | .controlGarbled => 4
  | .reportLost => 5
  | .boxLost => 6
  | .boxRegained => 7
  | .jackFault => 8
  | .sensorInvalid => 9
  | .positionStale => 10
  | .returnHoldOverflow => 11

/-- Sets a cause; one already set stays set (R37). -/
def setCause (c : Cause) (s : State) : State :=
  s.withNotices { s.notices with causes := s.notices.causes ||| BitVec.twoPow 12 (causeBit c) }

/-- Sets a cause when `b` holds. -/
def setCauseIf (b : Bool) (c : Cause) (s : State) : State := if b then setCause c s else s

/-- Attention: at least one cause is both set and enabled (R37). -/
def attention (n : Notices) : Bool := n.causes &&& n.enables != 0

end Sys2Proof.Machine
end

