-- ==== Sys2Proof/Machine/Ops.lean ====
section
/-! DEFINITION. Operations that several blocks share: fixed tables, the report queue, and the frame lock of
the trunk receiver and of return-in. A block has no exception entry; raising a notice or queuing a report is all
that a command can do beside its own state (see INVENTORY.md). -/

namespace Sys2Proof.Machine

/-- A table with the entry at `i` replaced. -/
def setAt {α : Type} {n : Nat} (v : Vector α n) (i : Fin n) (x : α) : Vector α n := v.set i.val x i.isLt

/-- A table with every entry replaced by a function of it. -/
def mapTable {α β : Type} {n : Nat} (f : α → β) (v : Vector α n) : Vector β n := Vector.ofFn fun i => f v[i]

/-- A list with its last member replaced by a function of it. -/
def modifyLast {α : Type} (f : α → α) : List α → List α
  | [] => []
  | [a] => [f a]
  | a :: b :: l => a :: modifyLast f (b :: l)

/-- A value moved toward a target by at most `up` or `down` (R104, R106, R172). -/
def moveToward (target up down cur : Nat) : Nat :=
  if cur < target then min target (cur + up)
  else if target < cur then max target (cur - down)
  else cur

/-- Runs `f` unless the part is held: while it is, no block acts (R193, notes/assumptions/7.md). -/
def running (f : State → State) (s : State) : State := if s.pins.held then s else f s

/-! ## The report queue -/

/-- Offers a report to the report queue: it joins the back, or is lost when 16 wait (R31). -/
def offerReport (r : Report) (s : State) : State :=
  if s.reports.queue.length < Config.reportDepth then
    s.withReports { s.reports with queue := s.reports.queue ++ [r] }
  else
    setCause .reportLost (s.withReports { s.reports with lost := satInc 65535 s.reports.lost })

/-- Report kind codes (R30). -/
def replyKind : BitVec 6 := 0x3F#6
/-- R30. -/
def cueKind : BitVec 6 := 0x34#6
/-- R30. -/
def abortKind : BitVec 6 := 0x35#6
/-- R30. -/
def endedKind : BitVec 6 := 0x36#6
/-- R30. -/
def droppedKind : BitVec 6 := 0x37#6
/-- R30. -/
def seatCallKind : BitVec 6 := 0x0E#6
/-- R30. -/
def stopEventKind : BitVec 6 := 0x1E#6

/-! ## Frame lock -/

/-- What a word does beyond moving the lock. -/
inductive LockEvent where
  /-- Nothing. -/
  | quiet
  /-- The last word of a counted frame arrived: the frame's words, and whether it was counted in LOCKED. -/
  | frame (words : List Word) (inLocked : Bool)
  /-- The receiver entered HUNT. -/
  | hunting
  deriving DecidableEq, Repr

/-- One word into the lock machine of R2 to R4, for frames of `n` words (16 for the trunk; 8 for return-in, R34). -/
def lockStep (n : Nat) (l : FrameLock) (w : Word) : FrameLock × LockEvent :=
  match l.lock with
  | .hunt => if w = syncWord then (⟨.verify, 0, 0, []⟩, .quiet) else (l, .quiet)
  | .verify =>
    if l.pos + 1 < n then ({ l with pos := l.pos + 1 }, .quiet)
    else if w = syncWord then (⟨.locked, 0, 0, [w]⟩, .quiet)
    else (FrameLock.initial, .hunting)
  | .locked =>
    if l.pos + 1 < n then
      ({ l with pos := l.pos + 1, words := l.words ++ [w] },
        if l.pos + 2 = n then .frame (l.words ++ [w]) true else .quiet)
    else if w = syncWord then (⟨.locked, 0, 0, [w]⟩, .quiet)
    else (⟨.flywheel, 0, 1, [w]⟩, .quiet)
  | .flywheel =>
    if l.pos + 1 < n then
      ({ l with pos := l.pos + 1, words := l.words ++ [w] },
        if l.pos + 2 = n then .frame (l.words ++ [w]) false else .quiet)
    else if w = syncWord then (⟨.locked, 0, 0, [w]⟩, .quiet)
    else if l.missRun < 2 then (⟨.flywheel, 0, l.missRun + 1, [w]⟩, .quiet)
    else (FrameLock.initial, .hunting)

/-- A counted frame is good when it was counted in LOCKED and the sum of its words after W0 is 0 (R1, R5, R34). -/
def goodFrame (words : List Word) (inLocked : Bool) : Bool := inLocked && sumWords words.tail == 0

/-- The code of a lock state (R18, R33). -/
def lockCode : LockState → Nat
  | .hunt => 0
  | .verify => 1
  | .locked => 2
  | .flywheel => 3

/-- The code of a health state (R18, R33). -/
def healthCode : Health → Nat
  | .lost => 0
  | .ok => 1

end Sys2Proof.Machine
end

