-- ==== Sys2Proof/Machine/Programme.lean ====
section
/-! DEFINITION. The programme map's answers: commentary lane resolution, the BED lane, the ANNOUNCE lanes,
the default language and the language index (chapter 3). -/

namespace Sys2Proof.Machine

/-- The commentary lane of a language, none when it is dark or NONE (R48). -/
def commentaryLane (p : Programme) (language : Option Nat) : Option (Fin 12) :=
  match language with
  | none => none
  | some t => (List.finRange 12).find? fun i => p.lanes[i].kind = .commentary && p.lanes[i].tag = t

/-- The lane of kind BED, if there is one (R45, R96). -/
def bedLane (p : Programme) : Option (Fin 12) :=
  (List.finRange 12).find? fun i => p.lanes[i].kind = .bed

/-- The ANNOUNCE lanes in ascending lane number (R45). -/
def announceLanes (p : Programme) : List (Fin 12) :=
  (List.finRange 12).filter fun i => p.lanes[i].kind = .announce

/-- How many lanes have a kind. -/
def countKind (k : LaneKind) (lanes : Vector LaneEntry 12) : Nat :=
  ((List.finRange 12).filter fun i => lanes[i].kind = k).length

/-- The default language, the carousel's first member (R46). -/
def defaultLanguage (p : Programme) : Option Nat := p.carousel.head?

/-- The language index of a seat's language: its 1-based position in the carousel, 0 for NONE (R46). -/
def languageIndex (p : Programme) (language : Option Nat) : Nat :=
  match language with
  | none => 0
  | some t => if t ∈ p.carousel then p.carousel.idxOf t + 1 else 0

/-- The member that follows `t`, the last followed by the first (R81). -/
def nextLanguage (carousel : List Nat) (t : Nat) : Nat :=
  carousel.getD ((carousel.idxOf t + 1) % carousel.length) t

/-- The member before `t`, the first preceded by the last (R81). -/
def prevLanguage (carousel : List Nat) (t : Nat) : Nat :=
  carousel.getD ((carousel.idxOf t + carousel.length - 1) % carousel.length) t

/-- The code of a lane kind (R43). -/
def laneKindCode : LaneKind → Nat
  | .unused => 0
  | .commentary => 1
  | .announce => 2
  | .bed => 3

/-- The lane kind of a code 0 to 3 (R43). -/
def laneKindOf : Nat → LaneKind
  | 0 => .unused
  | 1 => .commentary
  | 2 => .announce
  | _ => .bed

end Sys2Proof.Machine
end

