-- ==== Sys2Proof/Machine/SeatTable.lean ====
section
/-! DEFINITION. The seat table: derived seat states, key actions, the crossfade and the Tour Start effect
(chapter 5). -/

namespace Sys2Proof.Machine

/-- The seat states (R76). -/
inductive SeatState where
  | absent
  | listening
  | fault
  | unreachable
  | disabled
  deriving DecidableEq, Repr

/-- The code of a seat state (R76). -/
def seatStateCode : SeatState → Nat
  | .absent => 0
  | .listening => 1
  | .fault => 2
  | .unreachable => 3
  | .disabled => 4

/-- The index of the PA record (R75). -/
def paIndex : Fin 65 := 64

/-- The line of a seat index (R56). -/
def seatLine (i : Fin 65) : Fin 4 := Fin.ofNat 4 (i.val / 16)

/-- The box of a seat index (R56). -/
def seatBox (i : Fin 65) : Fin 8 := Fin.ofNat 8 (i.val % 16 / 2)

/-- The place of a seat among the sixteen seats of its line: box × 2 + side (R56). -/
def seatPlace (i : Fin 65) : Fin 16 := Fin.ofNat 16 i.val

/-- The seat index of a line, box and side: line × 16 + box × 2 + side (R56). -/
def seatIndex (line : Fin 4) (box : Fin 8) (right : Bool) : Fin 65 :=
  Fin.ofNat 65 (line.val * 16 + box.val * 2 + bitNat right)

/-- The state of a headset seat from its enabled flag, its box's reach and its confirmed class (R76). -/
def headsetState (enabled : Bool) (reach : Reach) (confirmed : Option JackClass) : SeatState :=
  if !enabled then .disabled
  else match reach, confirmed with
    | .lost, _ => .unreachable
    | .unknown, _ => .unreachable
    | .reachable, some .short => .fault
    | .reachable, some .unplugged => .absent
    | .reachable, none => .absent
    | .reachable, some .headset => .listening

/-- The state of the PA record (R77). -/
def paState (enabled : Bool) (source : PaSource) : SeatState :=
  if enabled && source != .off then .listening else .disabled

/-- The state of a record, derived from the inputs as they stand (R76 to R78). -/
def seatState (s : State) (i : Fin 65) : SeatState :=
  if i = paIndex then paState s.seats.records[i].enabled s.seats.paSource
  else headsetState s.seats.records[i].enabled s.lines[seatLine i].boxes[seatBox i].reach
    s.lines[seatLine i].jacks[seatPlace i].confirmed

/-! ## Keys -/

/-- The key actions of one delivery (R68). -/
structure Keys where
  languageNext : Bool
  languagePrev : Bool
  volumeUp : Bool
  volumeDown : Bool
  call : Bool
  deriving DecidableEq, Repr

/-- The key actions of one side of a key word; opposite keys cancel (R60, R68). -/
def keysOf (w : Word) (right : Bool) : Keys :=
  let b (k : Nat) := w.getLsbD (6 * bitNat right + k)
  ⟨b 0 && !b 1, b 1 && !b 0, b 2 && !b 3, b 3 && !b 2, b 4⟩

/-- The language after the language keys (R81). -/
def stepLanguage (carousel : List Nat) (k : Keys) (language : Option Nat) : Option Nat :=
  match language with
  | none => none
  | some t =>
    if carousel.isEmpty then some t
    else if k.languageNext then some (nextLanguage carousel t)
    else if k.languagePrev then some (prevLanguage carousel t)
    else some t

/-- The volume step after the volume keys (R80). -/
def stepVolume (k : Keys) (step : Nat) : Nat :=
  if k.volumeUp then min 15 (step + 1) else if k.volumeDown then step - 1 else step

/-- The Seat Call report (R82). -/
def seatCall (i : Fin 65) : Report := ⟨seatCallKind, 0, [word i.val]⟩

/-- A record after a delivery's keys, the flag its enabled flag and locks allow (R79 to R83). -/
def pressKeys (carousel : List Nat) (k : Keys) (r : SeatRecord) : SeatRecord :=
  { r with
    language := if r.languageLock then r.language else stepLanguage carousel k r.language
    step := if r.volumeLock then r.step else stepVolume k r.step
    holdoff := if k.call && r.holdoff = 0 then Config.callHoldoff else r.holdoff }

/-- A delivery of key actions to a seat (R79 to R82). -/
def deliverKeys (i : Fin 65) (k : Keys) (s : State) : State :=
  let r := s.seats.records[i]
  if !r.enabled then s
  else
    let s' := s.withSeats { s.seats with
      records := setAt s.seats.records i (pressKeys s.prog.carousel k r) }
    if k.call && r.holdoff = 0 then offerReport (seatCall i) s' else s'

/-- The call holdoffs at a local tick (R82). -/
def holdoffTick (s : State) : State :=
  s.withSeats { s.seats with
    records := mapTable (fun r => { r with holdoff := r.holdoff - 1 }) s.seats.records }

/-! ## The crossfade -/

/-- One crossfade step of a record (R84). -/
def crossfade (p : Programme) (r : SeatRecord) : SeatRecord :=
  let target := commentaryLane p r.language
  let down := r.fade - Config.fadeStep
  let up := min Config.fullGain (r.fade + Config.fadeStep)
  match r.phase with
  | .steady => if target = r.sounding then r else { r with phase := .fadeOut, fade := down }
  | .fadeOut =>
    if target = r.sounding then { r with phase := .fadeIn, fade := up }
    else if down = 0 then { r with phase := .fadeIn, fade := 0, sounding := target }
    else { r with fade := down }
  | .fadeIn =>
    if target = r.sounding then
      { r with phase := if up = Config.fullGain then .steady else .fadeIn, fade := up }
    else { r with phase := .fadeOut, fade := down }

/-- The crossfade step of an output frame, for every record (R84, R85). -/
def crossfadeStep (s : State) : State :=
  s.withSeats { s.seats with records := mapTable (crossfade s.prog) s.seats.records }

/-! ## Tour Start, Restart and the carousel -/

/-- The Tour Start effect on one record (R87). -/
def tourStartRecord (p : Programme) (defaultStep : Nat) (r : SeatRecord) : SeatRecord :=
  { r with
    language := defaultLanguage p
    step := defaultStep
    sounding := commentaryLane p (defaultLanguage p)
    phase := .steady
    fade := Config.fullGain }

/-- The Tour Start effect on all 65 records (R87). -/
def tourStartSeats (s : State) : State :=
  s.withSeats { s.seats with
    records := mapTable (tourStartRecord s.prog s.mixer.audio.defaultStep) s.seats.records }

/-- A record after the carousel became `tags` (R54). -/
def rehome (tags : List Nat) (r : SeatRecord) : SeatRecord :=
  match r.language with
  | some t => if t ∈ tags then r else { r with language := tags.head? }
  | none => { r with language := tags.head? }

/-- The PA source as the PA_SOURCE action writes it (R91). -/
def setPaSource (p : PaSource) (s : State) : State := s.withSeats { s.seats with paSource := p }

/-- The code of a PA source (R88). -/
def paSourceCode : PaSource → Nat
  | .off => 0
  | .commentary => 1
  | .announceOnly => 2

/-- The PA source of a code 0 to 2 (R88). -/
def paSourceOf : Nat → PaSource
  | 0 => .off
  | 1 => .commentary
  | _ => .announceOnly

/-- The code of a fade phase (R92). -/
def phaseCode : FadePhase → Nat
  | .steady => 0
  | .fadeOut => 1
  | .fadeIn => 2

end Sys2Proof.Machine
end

