-- ==== Sys2Proof/Machine/AnnounceQueue.lean ====
section
/-! DEFINITION. The announcement controller's queue, plan, cue, preemption and trailing (chapter 8), up to the
triggers these raise: an operation that raises triggers answers them beside the state, in the order they are raised,
and Machine/CueScan.lean scans them. -/

namespace Sys2Proof.Machine

/-- A state and the triggers that what led to it has raised, in order. -/
abbrev Raised := State × List Trigger

/-! ## Reading the queue -/

/-- An entry that is CUED, PLAYING or TRAILING (R136). -/
def isActive (e : Entry) : Bool := e.state != .waiting

/-- An entry that is WAITING. -/
def isWaiting (e : Entry) : Bool := e.state == .waiting

/-- The active entry (R136, R137). -/
def activeEntry (s : State) : Option Entry := s.ann.queue.find? isActive

/-- The announcement state: the active entry's, or none (R137). -/
def announceState (s : State) : Option EntryState := (activeEntry s).map (·.state)

/-- Whether an entry has a kind and subject; no two entries of the queue share both (R137). -/
def hasKey (k : EntryKind) (subject : Nat) (e : Entry) : Bool := e.kind == k && e.subject == subject

/-- The plan of the active entry, empty when there is none (R142). -/
def activePlan (s : State) : List PlanPair :=
  match activeEntry s with
  | none => []
  | some e => e.plan.getD []

/-- The held set: the lanes of the active entry's plan (R50). -/
def heldLanes (s : State) : List (Fin 12) := (activePlan s).map (·.lane)

/-- Whether the active entry is CUED or PLAYING. -/
def inHand (e : Entry) : Bool := e.state == .cued || e.state == .playing

/-- The announcement lamp (R59). -/
def lampLit (s : State) : Bool := (activeEntry s).any inHand

/-! ## Codes (R158, R161) -/

/-- R158. -/
def entryKindCode : EntryKind → Nat
  | .approach => 0
  | .arrival => 1
  | .general => 2

/-- R161. -/
def entryStateCode : EntryState → Nat
  | .waiting => 0
  | .cued => 1
  | .playing => 2
  | .trailing => 3

/-- R121. -/
def policyCode : RepeatPolicy → Nat
  | .once => 0
  | .count => 1
  | .whileHalted => 2
  | .countWhileHalted => 3

/-- R121. -/
def policyOf : Nat → RepeatPolicy
  | 0 => .once
  | 1 => .count
  | 2 => .whileHalted
  | _ => .countWhileHalted

/-- R158. -/
def reasonCode : Reason → Nat
  | .clipEnd => 1
  | .silence => 2
  | .timeout => 3
  | .maxTime => 4
  | .noLanes => 5
  | .trunk => 6
  | .cancelled => 7
  | .tour => 8
  | .preempted => 9
  | .stale => 10

/-- A plan pair as a report word (R158). -/
def pairWord (p : PlanPair) : Word := word (p.language + p.lane.val * 256)

/-- The Cue report (R141, R158). -/
def cueReport (e : Entry) (ticket : Nat) (plan : List PlanPair) : Report :=
  ⟨cueKind, 0, [word ticket, word (entryKindCode e.kind), word e.subject, word e.priority, word plan.length]
    ++ plan.map pairWord⟩

/-- The Abort report (R158). -/
def abortReport (ticket : Nat) (r : Reason) : Report := ⟨abortKind, 0, [word ticket, word (reasonCode r)]⟩

/-- The Ended report (R158); an entry in TRAILING has an end reason, so the 0 is never sent. -/
def endedReport (e : Entry) : Report :=
  ⟨endedKind, 0, [word e.ticket, word ((e.reason.map reasonCode).getD 0)]⟩

/-- The Dropped report (R139, R158). -/
def droppedReport (e : Entry) : Report := ⟨droppedKind, 0, [word (entryKindCode e.kind), word e.subject]⟩

/-! ## Changing the queue -/

/-- The state with another queue. -/
def setQueue (q : List Entry) (s : State) : State := s.withAnn { s.ann with queue := q }

/-- Removes the WAITING entries that satisfy `p`, with no report (R137). -/
def removeWaiting (p : Entry → Bool) (s : State) : State :=
  setQueue (s.ann.queue.filter fun e => !(isWaiting e && p e)) s

/-- Changes the active entry (R137: there is at most one). -/
def updateActive (f : Entry → Entry) (s : State) : State :=
  setQueue (s.ann.queue.map fun e => if isActive e then f e else e) s

/-- An entry as it is offered: WAITING, with no ticket, plan, flag or end reason; its entry time is now (R136). -/
def newEntry (kind : EntryKind) (subject priority : Nat) (policy : RepeatPolicy) (count now : Nat) : Entry :=
  ⟨kind, subject, priority, policy, count, none, now, .waiting, 0, none, false, false, none⟩

/-- Whether an entry of the queue stands before one that joins: higher priority, or the same and no later entry time
(R137). -/
def standsBefore (f e : Entry) : Bool :=
  e.priority < f.priority || (f.priority == e.priority && f.entryTime ≤ e.entryTime)

/-- The queue with an entry joined in queue order (R137). -/
def insertEntry (e : Entry) : List Entry → List Entry
  | [] => [e]
  | f :: q => if standsBefore f e then f :: insertEntry e q else e :: f :: q

/-! ## The plan -/

/-- Whether some LISTENING record has chosen a language (R142). -/
def chosen (s : State) (t : Nat) : Bool :=
  (List.finRange 65).any fun i => seatState s i == .listening && s.seats.records[i].language == some t

/-- The needed languages but for the default: carousel members that a LISTENING record has chosen, in carousel order
(R142). -/
def otherNeeded (s : State) : List Nat := s.prog.carousel.tail.filter (chosen s)

/-- The home lane of a language among free ANNOUNCE lanes (R142). -/
def homeLane (p : Programme) (free : List (Fin 12)) (t : Nat) : Option (Fin 12) :=
  free.find? fun i => p.lanes[i].tag = t

/-- Step 2 of R142 for one language: its home lane, if a free lane has its tag. -/
def giveHome (p : Programme) (acc : List PlanPair × List (Fin 12)) (t : Nat) : List PlanPair × List (Fin 12) :=
  match homeLane p acc.2 t with
  | some i => (acc.1 ++ [⟨t, i⟩], acc.2.erase i)
  | none => acc

/-- Step 3 of R142 for one language: the lowest free lane, if it has none yet. -/
def giveFree (acc : List PlanPair × List (Fin 12)) (t : Nat) : List PlanPair × List (Fin 12) :=
  if acc.1.any fun q => q.language == t then acc
  else match acc.2 with
    | [] => acc
    | i :: rest => (acc.1 ++ [⟨t, i⟩], rest)

/-- The lanes given out to the default language `d` and the others, by the three steps of R142. -/
def givePairs (p : Programme) (d : Nat) (others : List Nat) : List PlanPair :=
  let free := announceLanes p
  match (homeLane p free d).or free.head? with
  | none => []
  | some i =>
    let step2 := others.foldl (giveHome p) ([⟨d, i⟩], free.erase i)
    (others.foldl giveFree step2).1

/-- The plan (R142): the pairs in the order of the needed list. It is empty when the carousel is empty or no lane is
ANNOUNCE (R143). -/
def buildPlan (s : State) : List PlanPair :=
  match s.prog.carousel with
  | [] => []
  | d :: _ =>
    let pairs := givePairs s.prog d (otherNeeded s)
    (d :: otherNeeded s).filterMap fun t => pairs.find? fun q => q.language == t

/-! ## Going to TRAILING -/

/-- The active entry goes to TRAILING with a reason, and the chime generator stops (R148). -/
def toTrailing (r : Reason) (s : State) : State :=
  let s' := updateActive (fun e => { e with state := .trailing, reason := some r }) s
  s'.withAnn { s'.ann with chime := none }

/-- An active entry that is CUED or PLAYING is aborted: an Abort report, then TRAILING (R132, R147, R150, R151). -/
def abortActive (r : Reason) (s : State) : State :=
  match activeEntry s with
  | some e => if inHand e then toTrailing r (offerReport (abortReport e.ticket r) s) else s
  | none => s

/-! ## The cue -/

/-- The ticket after `t` (R141). -/
def nextTicket (t : Nat) : Nat := if t = 0 ∨ 255 ≤ t then 1 else t + 1

/-- The chime slot of an entry (R141, R155). -/
def chimeSlot (e : Entry) : Fin 4 :=
  if e.priority = 3 then 3
  else match e.kind with
    | .approach => 0
    | .arrival => 1
    | .general => 2

/-- A chime started from a slot, none where the slot has no notes (R155, R156). -/
def startChime (slots : Vector (List Note) 4) (k : Fin 4) : Option Chime :=
  if slots[k].isEmpty then none else some ⟨k, slots[k], 0, 0⟩

/-- An entry as a cue makes it (R141). -/
def cuedEntry (ticket : Nat) (plan : List PlanPair) (e : Entry) : Entry :=
  { e with state := .cued, ticket := ticket, plan := some plan, clipStarted := false, heard := false, reason := none }

/-- Cues the entry `e` of the queue: ticket, plan, Cue report, chime, and the trigger ANNOUNCE_CUED (R141); an entry
with an empty plan and no chime goes to TRAILING with NO_LANES at once (R143). -/
def cueEntry (e : Entry) (s : State) : Raised :=
  let ticket := nextTicket s.ann.ticket
  let plan := buildPlan s
  let queue := s.ann.queue.map fun f => if hasKey e.kind e.subject f then cuedEntry ticket plan f else f
  let s1 := s.withAnn { s.ann with
    queue := queue, ticket := ticket, cueTimer := 0, chime := startChime s.ann.slots (chimeSlot e) }
  let s2 := offerReport (cueReport e ticket plan) s1
  let s3 := if plan.isEmpty && s2.ann.chime.isNone then toTrailing .noLanes s2 else s2
  (s3, [⟨.announceCued, entryKindCode e.kind⟩])

/-- Whether a not-before time has been reached (R140). -/
def mayGo (now : Nat) (e : Entry) : Bool :=
  match e.notBefore with
  | none => true
  | some t => t ≤ now

/-- The entry that the conditions of R140 allow to be cued now. -/
def cueable (s : State) : Option Entry :=
  match s.ann.queue with
  | [] => none
  | e :: _ =>
    if (activeEntry s).isNone && s.dog.health == .ok && isWaiting e && mayGo s.now e then some e else none

/-! ## Returning to WAITING and preemption -/

/-- The lap state of the stop with a number, where the table has one (R129, R154). -/
def lapOf (stops : List Stop) (number : Nat) : Option LapState :=
  match stops.find? fun st => st.number == number with
  | none => none
  | some st => some st.lap

/-- Whether an entry that returns to WAITING is removed (R154). -/
def removedAtReturn (s : State) (e : Entry) : Bool :=
  if e.kind == .general then false
  else if s.route.session != .running then true
  else match lapOf s.route.stops e.subject with
    | some .passed => true
    | some .pending => true
    | some .arrived => e.kind == .approach
    | some .approached => false
    | none => false

/-- A preempted entry as it returns to WAITING (R149). -/
def preemptedEntry (e : Entry) : Entry :=
  { e with
    state := .waiting, ticket := 0, plan := none, clipStarted := false, heard := false, reason := none
    notBefore := none }

/-- The urgent entry `u`, which has joined, preempts the active entry `a` (R149). -/
def preempt (a u : Entry) (s : State) : Raised :=
  let s1 := offerReport (abortReport a.ticket .preempted) s
  let s2 := updateActive preemptedEntry s1
  let s3 := if removedAtReturn s2 a then removeWaiting (hasKey a.kind a.subject) s2 else s2
  cueEntry u (s3.withAnn { s3.ann with chime := none })

/-- An entry joins the queue, and preempts where R149 says so. -/
def joinEntry (e : Entry) (s : State) : Raised :=
  let s1 := setQueue (insertEntry e s.ann.queue) s
  match activeEntry s with
  | none => (s1, [])
  | some a =>
    if e.priority == 3 && s.dog.health == .ok && a.priority < 3 && inHand a then preempt a e s1
    else (s1, [])

/-- The lowest priority among the WAITING entries (R139). -/
def lowestWaiting (q : List Entry) : Option Nat := ((q.filter isWaiting).map (·.priority)).min?

/-- The entry that an offer of priority `p` evicts from a full queue: the last in queue order of the lowest WAITING
priority, where `p` is higher (R139). -/
def evictee (p : Nat) (q : List Entry) : Option Entry :=
  match lowestWaiting q with
  | none => none
  | some m => if m < p then (q.filter fun e => isWaiting e && e.priority == m).getLast? else none

/-- An entry is offered to the queue (R138, R139). -/
def offerEntry (e : Entry) (s : State) : Raised :=
  if s.ann.queue.any (hasKey e.kind e.subject) then (s, [])
  else if s.ann.queue.length < Config.queueDepth then joinEntry e s
  else match evictee e.priority s.ann.queue with
    | none => (offerReport (droppedReport e) s, [])
    | some v =>
      joinEntry e (removeWaiting (hasKey v.kind v.subject) (offerReport (droppedReport v) s))

/-! ## The end of an entry -/

/-- The halt condition (R153). -/
def haltCondition (s : State) : Bool := s.ann.haltUse && s.route.speed ≤ s.route.haltSpeed

/-- The count a policy leaves after a normal end (R153). -/
def countAfter (e : Entry) : Nat :=
  match e.policy with
  | .once => e.count
  | .count => e.count - 1
  | .whileHalted => e.count
  | .countWhileHalted => e.count - 1

/-- Whether the policy replays an entry after a normal end, with its reduced count `n` (R153). -/
def policyReplays (policy : RepeatPolicy) (n : Nat) (halted : Bool) : Bool :=
  match policy with
  | .once => false
  | .count => 0 < n
  | .whileHalted => halted
  | .countWhileHalted => 0 < n && halted

/-- An end reason that is a normal end (R152). -/
def normalEnd (r : Option Reason) : Bool := r == some .clipEnd || r == some .silence

/-- Whether an entry that leaves TRAILING replays (R153). -/
def replays (s : State) (e : Entry) : Bool :=
  normalEnd e.reason && policyReplays e.policy (countAfter e) (haltCondition s)

/-- An entry as it returns to WAITING for a replay (R153). -/
def replayEntry (s : State) (e : Entry) : Entry :=
  { e with
    count := countAfter e, notBefore := some (s.now + s.ann.replayGap), entryTime := s.now
    state := .waiting, ticket := 0, plan := none, clipStarted := false, heard := false, reason := none }

/-- Steps 1 to 3 of leaving TRAILING: the Ended report, the ticket and plan cleared, replay or removal (R152 to
R154). -/
def finishEntry (e : Entry) (s : State) : State :=
  let s1 := offerReport (endedReport e) s
  let rest := s1.ann.queue.filter fun f => !isActive f
  if replays s e && !removedAtReturn s (replayEntry s e) then
    setQueue (insertEntry (replayEntry s e) rest) s1
  else setQueue rest s1

/-- The active entry becomes PLAYING (R144). -/
def becomePlaying (s : State) : State :=
  let s' := updateActive (fun e => { e with state := .playing }) s
  s'.withAnn { s'.ann with playTimer := 0, silenceRun := 0 }

/-! ## Timers -/

/-- The cue timeout and the maximum play time at a local tick (R147). -/
def announceTimers (s : State) : State :=
  match activeEntry s with
  | none => s
  | some e =>
    if e.state == .cued && !e.clipStarted && !(e.plan.getD []).isEmpty then
      let s' := s.withAnn { s.ann with cueTimer := s.ann.cueTimer + 1 }
      if s.ann.cueTimeout ≤ s.ann.cueTimer + 1 then abortActive .timeout s' else s'
    else if e.state == .playing then
      let s' := s.withAnn { s.ann with playTimer := s.ann.playTimer + 1 }
      if Config.maxPlayTime ≤ s.ann.playTimer + 1 then abortActive .maxTime s' else s'
    else s

/-- The silence hold in whole meter blocks, rounded up (R146). -/
def holdBlocks (ms : Nat) : Nat := (ms + 15) / 16

/-- The examination of the plan lanes' quiet flags at a meter block end (R146). -/
def silenceCheck (s : State) : State :=
  match activeEntry s with
  | none => s
  | some e =>
    let plan := e.plan.getD []
    if e.state == .playing && !plan.isEmpty then
      if plan.any fun q => !s.meter.lanes[q.lane].quiet then
        let s' := updateActive (fun f => { f with heard := true }) s
        s'.withAnn { s'.ann with silenceRun := 0 }
      else if e.heard then
        let s' := s.withAnn { s.ann with silenceRun := s.ann.silenceRun + 1 }
        if holdBlocks s.ann.silenceHold ≤ s.ann.silenceRun + 1 then toTrailing .silence s' else s'
      else s
    else s

/-! ## The chime generator -/

/-- Output frames of a note (R156). -/
def noteFrames (n : Note) : Nat := n.duration * 16

/-- A note's sample at a frame index (R156). -/
def noteSample (n : Note) (i : Nat) : Int :=
  let magnitude : Int := (n.level * (noteFrames n - i) / noteFrames n : Nat)
  if i / n.divider % 2 = 0 then magnitude else - magnitude

/-- The chime's sample for this output frame, 0 while idle (R98, R156). -/
def chimeSample (c : Option Chime) : Int :=
  match c with
  | none => 0
  | some c => match c.notes[c.note]? with
    | none => 0
    | some n => noteSample n c.frame

/-- The chime after this output frame (R156). -/
def chimeAdvance (c : Option Chime) : Option Chime :=
  match c with
  | none => none
  | some c => match c.notes[c.note]? with
    | none => none
    | some n =>
      if c.frame + 1 < noteFrames n then some { c with frame := c.frame + 1 }
      else if c.note + 1 < c.notes.length then some { c with note := c.note + 1, frame := 0 }
      else none

end Sys2Proof.Machine
end

