-- ==== Sys2Proof/Machine/Lighting.lean ====
section
/-! DEFINITION. The light controller's work on zones: ranges, targets, release steps, scenes, overlays and the
light tick (chapter 9). -/

namespace Sys2Proof.Machine

/-- Whether a ring range selects a zone (R164). -/
def inRange (r : ZoneRange) (i : Fin 16) : Bool := (i - r.first).val ≤ (r.last - r.first).val

/-- A level as it may be shown: raised to the floor while health is LOST (R165). -/
def floored (h : Health) (floor level : Nat) : Nat :=
  match h with
  | .ok => level
  | .lost => max level floor

/-- The distance of two levels. -/
def levelDistance (a b : Nat) : Nat := (a - b) + (b - a)

/-- The fade step that covers a distance in a fade of `ms` milliseconds (R166, R168). -/
def fadeStepFor (ms distance : Nat) : Nat :=
  let ticks := max 1 (ms / 10)
  max 1 ((distance + ticks - 1) / ticks)

/-- A zone with the release step toward its effective target (R166, R171). -/
def releaseZone (h : Health) (l : Lights) (z : Zone) : Zone :=
  { z with fadeStep := fadeStepFor l.release (levelDistance (floored h l.floor z.base) z.current) }

/-- A zone whose overlay ends (R171). -/
def endOverlay (h : Health) (l : Lights) (z : Zone) : Zone :=
  releaseZone h l { z with overlay := none }

/-- The zones after a change of their targets from those of (`h`, `l`) to those of (`h'`, `l'`): a zone without an
overlay whose target changes takes a release step (R166, R176). -/
def retarget (h h' : Health) (l l' : Lights) : Lights :=
  { l' with
    zones := mapTable
      (fun z => if z.overlay.isNone && floored h l.floor z.base != floored h' l'.floor z.base
        then releaseZone h' l' z else z) l'.zones }

/-- A zone under one item of a scene (R168). -/
def applyItem (h : Health) (floor : Nat) (i : Fin 16) (z : Zone) (it : SceneItem) : Zone :=
  if inRange it.range i then
    { z with
      base := it.level
      fadeStep := fadeStepFor it.fade (levelDistance (floored h floor it.level) z.current) }
  else z

/-- Applying a scene (R168); an empty scene changes nothing. -/
def applySceneTo (h : Health) (n : Fin 16) (l : Lights) : Lights :=
  if l.scenes[n].isEmpty then l
  else { l with
    zones := Vector.ofFn fun i => l.scenes[n].foldl (applyItem h l.floor i) l.zones[i]
    current := some n }

/-- The OVERLAY action (R170); an empty pattern changes nothing. -/
def placeOverlay (r : ZoneRange) (p : Fin 4) (onLevel offLevel : Nat) (l : Lights) : Lights :=
  match l.patterns[p] with
  | none => l
  | some pat => { l with
      zones := Vector.ofFn fun i =>
        if inRange r i then { l.zones[i] with overlay := some ⟨p, onLevel, offLevel, 0, 0, pat.cycles⟩ }
        else l.zones[i] }

/-- The CLEAR action (R170). -/
def clearOverlays (h : Health) (r : ZoneRange) (l : Lights) : Lights :=
  { l with
    zones := Vector.ofFn fun i =>
      if inRange r i && l.zones[i].overlay.isSome then endOverlay h l l.zones[i] else l.zones[i] }

/-- A zone with an overlay at a light tick (R171). -/
def overlayTick (h : Health) (l : Lights) (z : Zone) (o : Overlay) : Zone :=
  let p := l.patterns[o.pattern].getD ⟨0, 1, 0⟩
  let shown := { z with
    current := floored h l.floor (if p.mask.getLsbD o.step then o.onLevel else o.offLevel) }
  if o.tick + 1 < p.length then { shown with overlay := some { o with tick := o.tick + 1 } }
  else if o.step < 15 then { shown with overlay := some { o with tick := 0, step := o.step + 1 } }
  else if o.cycles = 0 then { shown with overlay := some { o with tick := 0, step := 0 } }
  else if o.cycles = 1 then endOverlay h l shown
  else { shown with overlay := some { o with tick := 0, step := 0, cycles := o.cycles - 1 } }

/-- A zone at a light tick (R172). -/
def zoneTick (h : Health) (l : Lights) (z : Zone) : Zone :=
  match z.overlay with
  | some o => overlayTick h l z o
  | none => { z with
      current := moveToward (floored h l.floor z.base) z.fadeStep z.fadeStep z.current }

/-- The light frame (R173). -/
def lightFrame (zones : Vector Zone 16) : List Word :=
  let body := (List.finRange 16).map fun i => word zones[i].current
  syncWord :: body ++ [checkWord body]

/-- The light tick (R172, R173). -/
def lightTick (s : State) : State :=
  let zones := mapTable (zoneTick s.dog.health s.lights) s.lights.zones
  (s.withLights { s.lights with zones := zones }).withOut { s.out with lightOut := lightFrame zones }

end Sys2Proof.Machine
end

