-- ==== Sys2Proof/Machine/CueScan.lean ====
section
/-! DEFINITION. The cue unit's scan, the events of the announcement controller that raise triggers, and trunk
health (sections 10.2, 10.3, 8.2, 8.5, 1.4). -/

namespace Sys2Proof.Machine

/-! ## Matching -/

/-- Whether a parameter stands for any value (R184). -/
def isAny (k : TriggerKind) (param : Nat) : Bool :=
  match k with
  | .announceCued => param == 3
  | .stopApproach => param == 0
  | .stopArrived => param == 0
  | .marker => false
  | .announcePlaying => false
  | .announceEnded => false
  | .ambientBand => false
  | .trunkLost => false
  | .trunkRestored => false
  | .tour => false

/-- Whether a cue matches a raised trigger (R184). -/
def matchesCue (t : Trigger) (c : Cue) : Bool :=
  c.enabled && c.trigger == t.kind && (isAny c.trigger c.param || c.param == t.value)

/-- The bit of the relation of the ambient light to a threshold (R185). -/
def relationBit (a : Ambient) (threshold : Nat) : Nat :=
  if a.confirmed.isNone then 3
  else if a.smoothed.getD 0 < threshold then 0
  else if a.smoothed.getD 0 = threshold then 1
  else 2

/-- Whether a cue's condition holds (R185). -/
def conditionHolds (a : Ambient) (c : Cue) : Bool := c.mask.getLsbD (relationBit a c.threshold)

/-! ## Actions -/

/-- One audio setting written by a cue action (R109). -/
def setAudio (a : AudioSettings) (s : State) : State := s.withMixer { s.mixer with audio := a }

/-- A cue's action, through the block that owns the state (R186), with the triggers that its effects raise. -/
def doAction (a : CueAction) (s : State) : Raised :=
  match a with
  | .scene n => (s.withLights (applySceneTo s.dog.health n s.lights), [])
  | .overlay r p on off => (s.withLights (placeOverlay r p on off s.lights), [])
  | .clear r => (s.withLights (clearOverlays s.dog.health r s.lights), [])
  | .headsetCeiling k => (setAudio { s.mixer.audio with headsetCeiling := k } s, [])
  | .paCeiling k => (setAudio { s.mixer.audio with paCeiling := k } s, [])
  | .paSource p => (setPaSource p s, [])
  | .duckDepth d => (setAudio { s.mixer.audio with duckDepth := d } s, [])
  | .announce phrase priority policy count =>
    offerEntry (newEntry .general phrase priority policy count s.now) s

/-- One entry of the table in a scan (R187). -/
def scanCue (t : Trigger) (acc : Raised) (i : Fin 32) : Raised :=
  let c := acc.1.cues.table[i]
  if matchesCue t c && conditionHolds acc.1.cues.ambient c then
    let r := doAction c.action acc.1
    (r.1, acc.2 ++ r.2)
  else acc

/-- One scan of the table, in index order, with the triggers its actions' effects raise (R187). -/
def scanOnce (t : Trigger) (s : State) : Raised := (List.finRange 32).foldl (scanCue t) (s, [])

/-- A trigger is raised: its scan, then the scans of what that scan caused (R187). The second scans are for
ANNOUNCE_CUED, on which no ANNOUNCE action stands (R188), so they raise nothing further
(notes/assumptions/14.md). -/
def raise (t : Trigger) (s : State) : State :=
  let r := scanOnce t s
  r.2.foldl (fun s' t' => (scanOnce t' s').1) r.1

/-- Triggers raised one after the other. -/
def raiseAll (r : Raised) : State := r.2.foldl (fun s t => raise t s) r.1

/-! ## Cueing and ending entries -/

/-- The conditions of R140 are examined, and the front entry is cued where they hold. -/
def tryCue (s : State) : State :=
  match cueable s with
  | none => s
  | some e => raiseAll (cueEntry e s)

/-- The active entry leaves TRAILING (R152). -/
def leaveTrailing (s : State) : State :=
  match activeEntry s with
  | none => s
  | some e => tryCue (raise ⟨.announceEnded, 0⟩ (finishEntry e s))

/-- The active entry becomes PLAYING and ANNOUNCE_PLAYING is raised (R144). -/
def startPlaying (s : State) : State := raise ⟨.announcePlaying, 0⟩ (becomePlaying s)

/-- What the end of a chime brings about for the active entry (R143, R144, R156). -/
def chimeEnded (s : State) : State :=
  match activeEntry s with
  | none => s
  | some e =>
    if e.state == .cued then
      if (e.plan.getD []).isEmpty then toTrailing .noLanes s
      else if e.clipStarted then startPlaying s
      else s
    else s

/-- An entry offered by the route tracker, or by a message (R128, R138, R159). -/
def offer (e : Entry) (s : State) : State := raiseAll (offerEntry e s)

/-! ## Trunk health -/

/-- Health becomes LOST (R11). -/
def healthFalls (s : State) : State :=
  let s1 := s.withDog ⟨.lost, 0, 0, false⟩
  let s2 := s1.withStore { s1.store with frames := [], primed := false }
  let s3 := setCause .trunkLost s2
  let s4 := abortActive .trunk s3
  let s5 := s4.withLights (retarget .ok .lost s4.lights s4.lights)
  raise ⟨.trunkLost, 0⟩ s5

/-- Health becomes OK (R12). -/
def healthRises (s : State) : State :=
  let s1 := s.withDog ⟨.ok, 0, 0, false⟩
  let s2 := setCause .trunkRestored s1
  let s3 := s2.withLights (retarget .lost .ok s2.lights s2.lights)
  tryCue (raise ⟨.trunkRestored, 0⟩ (tryCue s3))

/-- The trunk watchdog at a local tick (R9, R10). -/
def watchdogTick (s : State) : State :=
  match s.dog.health with
  | .ok =>
    if s.dog.goodInTick then s.withDog { s.dog with silentRun := 0, goodInTick := false }
    else if s.dog.silentRun + 1 < Config.silentLimit then
      s.withDog { s.dog with silentRun := s.dog.silentRun + 1, goodInTick := false }
    else healthFalls s
  | .lost =>
    if s.dog.goodInTick then
      if s.dog.restoreRun + 1 < Config.restoreLimit then
        s.withDog { s.dog with restoreRun := s.dog.restoreRun + 1, goodInTick := false }
      else healthRises s
    else s.withDog { s.dog with restoreRun := 0, goodInTick := false }

/-- The other users of a local tick: call holdoffs, announcement timers, not-before times (R82, R140, R147). -/
def tickUsers (s : State) : State := tryCue (announceTimers (holdoffTick s))

/-- The local tick: local time advances, then the watchdog and the other users act, in the order the command gives
(R9, R147). -/
def localTick (watchdogFirst : Bool) (s : State) : State :=
  let s' := s.withNow (s.now + 1)
  if watchdogFirst then tickUsers (watchdogTick s') else watchdogTick (tickUsers s')

/-! ## The ambient light input -/

/-- The band of a smoothed value (R181). -/
def bandOf (a : Ambient) (v : Nat) : Band :=
  if v < a.t1 then .dark else if v < a.t2 then .dusk else if v < a.t3 then .day else .bright

/-- The smoothed value after a valid reading (R181). -/
def smooth (v : Option Nat) (x : Nat) : Nat :=
  match v with
  | none => x
  | some v => ((v : Int) + ((x : Int) - (v : Int) + 4) / 8).toNat

/-- The code of a confirmed or candidate band (R184, R190). -/
def bandCode : Option Band → Nat
  | none => 0
  | some .dark => 1
  | some .dusk => 2
  | some .day => 3
  | some .bright => 4

/-- A valid sample (R181, R182). -/
def validSample (a : Ambient) (x : Nat) : Ambient :=
  let v := smooth a.smoothed x
  let b := bandOf a v
  let run := if a.candidate = some b then satInc 65535 a.run else 1
  { a with
    last := x, smoothed := some v, invalidRun := 0, candidate := some b, run := run
    confirmed := if a.dwell * 10 ≤ run then some b else a.confirmed }

/-- An INVALID sample (R182). -/
def invalidSample (a : Ambient) (x : Nat) : Ambient :=
  if a.invalidRun + 1 = Config.invalidLimit then
    { a with last := x, invalidRun := a.invalidRun + 1, candidate := none, run := 0, confirmed := none }
  else { a with last := x, invalidRun := satInc 255 a.invalidRun }

/-- The ambient state after a reading; 0 and 255 are INVALID (R180). -/
def takeSample (a : Ambient) (x : Nat) : Ambient :=
  if x = 0 ∨ 255 ≤ x then invalidSample a x else validSample a x

/-- The ambient sample (R180 to R182). -/
def ambientSample (x : Nat) (s : State) : State :=
  let a := takeSample s.cues.ambient x
  let s1 := s.withCues { s.cues with ambient := a }
  let s2 := setCauseIf ((x == 0 || 255 ≤ x) && s.cues.ambient.invalidRun + 1 == Config.invalidLimit) .sensorInvalid s1
  if a.confirmed = s.cues.ambient.confirmed then s2
  else tryCue (raise ⟨.ambientBand, bandCode a.confirmed⟩ s2)

end Sys2Proof.Machine
end

