-- ==== Sys2Proof/Machine/RouteTracker.lean ====
section
/-! DEFINITION. The route tracker: placing fixes, dead reckoning, stop evaluation, the next stop and the tour
session (chapter 7). Windows are compared in centimetres, metre values multiplied by 100; a difference that could be
negative is written as a sum on the other side. -/

namespace Sys2Proof.Machine

/-! ## Windows of a stop -/

/-- The estimate lies beyond the stop's arrival window (R125). -/
def beyondWindow (st : Stop) (e : Nat) : Bool := (st.metre + st.radius) * 100 < e

/-- The estimate lies in the stop's arrival window (R126). -/
def inArrival (st : Stop) (e : Nat) : Bool :=
  st.metre * 100 ≤ e + st.radius * 100 && e ≤ (st.metre + st.radius) * 100

/-- The estimate lies in the stop's approach window (R127). -/
def inApproach (st : Stop) (e : Nat) : Bool :=
  st.metre * 100 ≤ e + st.approach * 100 && e + st.radius * 100 < st.metre * 100

/-- The stop's arrival window begins ahead of a position (R116). -/
def windowAhead (st : Stop) (n : Nat) : Bool := n + st.radius * 100 < st.metre * 100

/-- A stop still to be judged: PENDING or APPROACHED. -/
def openStop (st : Stop) : Bool := st.lap == .pending || st.lap == .approached

/-! ## Changing stops -/

/-- The state with another route record. -/
def setRoute (r : Route) (s : State) : State := s.withRoute r

/-- Gives the stop at index `i` a lap state. -/
def setLap (i : Nat) (lap : LapState) (s : State) : State :=
  match s.route.stops[i]? with
  | none => s
  | some st => setRoute { s.route with stops := s.route.stops.set i { st with lap := lap } } s

/-- An entry of a stop: kind APPROACH or ARRIVAL with its number as subject. -/
def ofStop (number : Nat) (e : Entry) : Bool := e.kind != .general && e.subject == number

/-- The stops that satisfy `p` return to PENDING, and their WAITING entries are removed (R116, R129). -/
def returnToPending (p : Stop → Bool) (s : State) : State :=
  let back := (s.route.stops.filter p).map (·.number)
  let stops := s.route.stops.map fun st => if p st then { st with lap := .pending } else st
  removeWaiting (fun e => e.kind != .general && back.contains e.subject)
    (setRoute { s.route with stops := stops } s)

/-- The effects of a lap wrap but for the estimate (R116, R117). -/
def lapWrap (s : State) : State :=
  returnToPending (fun _ => true) (setRoute { s.route with laps := satInc 65535 s.route.laps } s)

/-! ## Stop evaluation -/

/-- The APPROACH entry of a stop (R128). -/
def approachEntry (st : Stop) (now : Nat) : Entry := newEntry .approach st.number st.priority .once 0 now

/-- The ARRIVAL entry of a stop (R128). -/
def arrivalEntry (st : Stop) (now : Nat) : Entry := newEntry .arrival st.number st.priority st.policy st.count now

/-- The Stop Event report: ARRIVED 1, PASSED 2 (R124). -/
def stopEvent (number event : Nat) : Report := ⟨stopEventKind, 0, [word number, word event]⟩

/-- The stop at index `i` is passed (R125). -/
def passStop (i : Nat) (st : Stop) (s : State) : State :=
  offerReport (stopEvent st.number 2) (removeWaiting (ofStop st.number) (setLap i .passed s))

/-- The stop at index `i` arrives (R126). -/
def arriveStop (i : Nat) (st : Stop) (s : State) : State :=
  let s1 := removeWaiting (hasKey .approach st.number) (setLap i .arrived s)
  let s2 := if st.arrivalFlag then offer (arrivalEntry st s1.now) s1 else s1
  offerReport (stopEvent st.number 1) (raise ⟨.stopArrived, st.number⟩ s2)

/-- The stop at index `i` is approached (R127). -/
def approachStop (i : Nat) (st : Stop) (s : State) : State :=
  let s1 := setLap i .approached s
  let s2 := if st.approachFlag then offer (approachEntry st s1.now) s1 else s1
  raise ⟨.stopApproach, st.number⟩ s2

/-- The checks of R125 to R128 for the stop at index `i`. -/
def evaluateStop (s : State) (i : Nat) : State :=
  match s.route.stops[i]? with
  | none => s
  | some st =>
    let e := s.route.estimate
    if openStop st && beyondWindow st e then passStop i st s
    else if openStop st && inArrival st e && s.route.speed ≤ s.route.haltSpeed then arriveStop i st s
    else if st.lap == .pending && inApproach st e then approachStop i st s
    else if st.lap == .arrived && beyondWindow st e then removeWaiting (hasKey .arrival st.number) s
    else s

/-- Whether the position status is trusted: FRESH or DEAD_RECKONED (R113). -/
def trusted (r : Route) : Bool := r.status == .fresh || r.status == .deadReckoned

/-- Stop evaluation: the stops one at a time in table order (R124). -/
def evaluateStops (s : State) : State :=
  if s.route.session == .running && trusted s.route then
    (List.range s.route.stops.length).foldl evaluateStop s
  else s

/-! ## Fixes -/

/-- The fix at `n` is placed against the estimate (R116). -/
def placeFix (n : Nat) (s : State) : State :=
  let r := s.route
  if !r.seeded then setRoute { r with estimate := n, seeded := true } s
  else if r.loop && r.length * 50 < r.estimate - n then
    let s' := lapWrap s
    setRoute { s'.route with estimate := n } s'
  else if n < r.estimate && r.estimate - n ≤ r.tolerance * 100 then setRoute { r with estimate := n } s
  else if n < r.estimate then
    returnToPending (fun st => windowAhead st n) (setRoute { r with estimate := n } s)
  else setRoute { r with estimate := n } s

/-- A valid Position (R114, R116). -/
def takeFix (position speed : Nat) (s : State) : State :=
  let s1 := placeFix (min position (s.route.length * 100)) s
  evaluateStops (setRoute { s1.route with
    remainder := 0, speed := min speed Config.speedLimit, age := 0, status := .fresh } s1)

/-- A Position whose valid flag is 0 (R115). -/
def takeInvalidFix (s : State) : State := setRoute { s.route with status := .invalid, speed := 0 } s

/-! ## The route tick -/

/-- The position status of an age (R118). -/
def statusOfAge (age : Nat) : PositionStatus :=
  if age ≤ Config.freshAges then .fresh else if age ≤ Config.trustedAges then .deadReckoned else .stale

/-- The route with the age advanced and, while the age allows, the estimate moved by the speed (R117 steps 1, 2). -/
def reckon (r : Route) : Route :=
  if r.age + 1 ≤ Config.trustedAges then
    { r with
      age := r.age + 1
      estimate := r.estimate + (r.speed + r.remainder) / 50
      remainder := (r.speed + r.remainder) % 50 }
  else { r with age := r.age + 1 }

/-- The estimate bounded at the route end, with the effects of a wrap in LOOP mode (R117 step 3). -/
def boundEstimate (s : State) : State :=
  let r := s.route
  if r.loop && r.length * 100 ≤ r.estimate then
    let s' := lapWrap s
    setRoute { s'.route with estimate := r.estimate - r.length * 100 } s'
  else if !r.loop && r.length * 100 < r.estimate then setRoute { r with estimate := r.length * 100 } s
  else s

/-- The route tick (R117, R118), and the cue that its events may complete (R140). -/
def routeTick (s : State) : State :=
  if trusted s.route then
    let s1 := boundEstimate (setRoute (reckon s.route) s)
    let s2 := setRoute { s1.route with status := statusOfAge s1.route.age } s1
    let s3 := setCauseIf (s2.route.status == .stale) .positionStale s2
    let s4 := if s3.route.estimate != s.route.estimate then evaluateStops s3 else s3
    tryCue s4
  else s

/-! ## Reading the route -/

/-- The next stop (R130). -/
def nextStop (r : Route) : Option Stop := r.stops.find? fun st => openStop st && !beyondWindow st r.estimate

/-- The number of the next stop, 0 for none (R39, R123). -/
def nextStopNumber (r : Route) : Nat := ((nextStop r).map (·.number)).getD 0

/-- The code of a session (R33). -/
def sessionCode : Session → Nat
  | .idle => 0
  | .running => 1
  | .layover => 2

/-- The code of a position status (R33). -/
def positionCode : PositionStatus → Nat
  | .invalid => 0
  | .fresh => 1
  | .deadReckoned => 2
  | .stale => 3

/-- The code of a lap state (R123). -/
def lapCode : LapState → Nat
  | .pending => 0
  | .approached => 1
  | .arrived => 2
  | .passed => 3

/-! ## The tour session -/

/-- The queue effects of START and END (R132, R134). -/
def clearForTour (s : State) : State := removeWaiting (fun _ => true) (abortActive .tour s)

/-- The route of a tour that begins (R132). -/
def startedRoute (r : Route) : Route :=
  { r with
    stops := r.stops.map fun st => { st with lap := .pending }
    laps := 0, status := .invalid, speed := 0, age := 0, remainder := 0, seeded := false, session := .running }

/-- Tour with START (R131, R132). -/
def tourStart (s : State) : State :=
  let s1 := setRoute (startedRoute s.route) s
  raise ⟨.tour, 1⟩ (tourStartSeats (clearForTour s1))

/-- Tour with PAUSE in RUNNING (R133). -/
def tourPause (s : State) : State :=
  let s1 := setRoute { s.route with session := .layover } s
  raise ⟨.tour, 2⟩ (removeWaiting (fun e => e.kind != .general) s1)

/-- Tour with RESUME in LAYOVER (R133). -/
def tourResume (s : State) : State :=
  raise ⟨.tour, 1⟩ (evaluateStops (setRoute { s.route with session := .running } s))

/-- Tour with END (R134); from IDLE it raises no trigger. -/
def tourEnd (s : State) : State :=
  let s1 := clearForTour (setRoute { s.route with session := .idle } s)
  if s.route.session == .idle then s1 else raise ⟨.tour, 0⟩ s1

end Sys2Proof.Machine
end

