-- ==== Sys2Proof/Machine/Operands.lean ====
section
/-! DEFINITION. The operands of control messages: header fields, payload words and their bits, the kinds, the
result codes, and the order of checks (sections 2.1 to 2.3). -/

namespace Sys2Proof.Machine

/-! ## Words of a payload -/

/-- Word `n` of a payload, numbered from 1 as the manual's tables number them; 0 beyond its end. -/
def arg (p : List Word) (n : Nat) : Word := p.getD (n - 1) 0

/-- Word `n` of a payload as a number. -/
def argN (p : List Word) (n : Nat) : Nat := (arg p n).toNat

/-- Bits `lo` to `lo + len - 1` of a word as a number. -/
def bits (w : Word) (lo len : Nat) : Nat := w.toNat / 2 ^ lo % 2 ^ len

/-! ## The header (R21) -/

/-- The header word of a unit field, kind, tag and reserved bits (R21). -/
def headerWord (unit : BitVec 3) (kind : BitVec 6) (tag : BitVec 4) (reserved : BitVec 3) : Word :=
  unit ++ kind ++ tag ++ reserved

/-- Header bits 15–13 (R21). -/
def headerUnit (w : Word) : BitVec 3 := w.extractLsb' 13 3

/-- Header bits 12–7 (R21). -/
def headerKind (w : Word) : BitVec 6 := w.extractLsb' 7 6

/-- The head of a message from its header word and its word-lost mark (R21, R25). -/
def headOf (w : Word) (wordLost : Bool) : MsgHead := ⟨headerUnit w, w.extractLsb' 3 4, w.extractLsb' 0 3, wordLost⟩

/-- Whether a unit field names this unit: its own number, or 7 for all (R21). -/
def namesUnit (own : BitVec 2) (unit : BitVec 3) : Bool := unit == own.setWidth 3 || unit == 7#3

/-! ## Results (R28) -/

/-- The result codes (R28). -/
inductive Result where
  | accepted
  | unknownKind
  | length
  | reserved
  | range
  | inUse
  | full
  | duplicate
  | state
  | wordLost
  | order
  | framing
  deriving DecidableEq, Repr

/-- R28. -/
def resultCode : Result → Nat
  | .accepted => 0
  | .unknownKind => 1
  | .length => 2
  | .reserved => 3
  | .range => 4
  | .inUse => 5
  | .full => 6
  | .duplicate => 7
  | .state => 8
  | .wordLost => 9
  | .order => 10
  | .framing => 11

/-- What judging a message comes to: the result, the read data, and the state after it. -/
structure Verdict where
  result : Result
  data : List Word
  state : State
  deriving DecidableEq, Repr

/-- The code of the first check that fails (R26). -/
def firstFailure : List (Bool × Result) → Option Result
  | [] => none
  | (true, r) :: _ => some r
  | (false, _) :: cs => firstFailure cs

/-- A message refused with a code: nothing it would have written is written (R26). -/
def refuse (r : Result) (s : State) : Verdict := ⟨r, [], s⟩

/-- A message judged by checks in order, and applied whole when all pass (R26). -/
def judged (checks : List (Bool × Result)) (s applied : State) : Verdict :=
  match firstFailure checks with
  | some r => refuse r s
  | none => ⟨.accepted, [], applied⟩

/-- A read message judged by checks in order, and answered with data when all pass (R26, R29). -/
def answered (checks : List (Bool × Result)) (s : State) (data : List Word) : Verdict :=
  match firstFailure checks with
  | some r => refuse r s
  | none => ⟨.accepted, data, s⟩

/-- The checks of a payload's length against the required length (R26, R27). -/
def lengthChecks (strict : Bool) (required : Nat) (p : List Word) : List (Bool × Result) :=
  [(p.length < required, .length), (strict && required < p.length, .length)]

/-- The checks of a payload whose length is worked out from a count at word `at_` (R26): too short to hold it, the
count above `top`, then the length. -/
def countChecks (strict : Bool) (at_ top required : Nat) (p : List Word) : List (Bool × Result) :=
  (decide (p.length < at_), Result.length) :: (decide (top < argN p at_), Result.range)
    :: lengthChecks strict required p

/-- The check of reserved payload fields (R26, R27). -/
def reservedCheck (strict nonzero : Bool) : Bool × Result := (strict && nonzero, .reserved)

/-- Whether a number lies outside a range. -/
def outside (lo hi n : Nat) : Bool := n < lo || hi < n

/-- Whether some bit above bit `n` is set. -/
def above (n : Nat) (w : Word) : Bool := w.toNat / 2 ^ (n + 1) != 0

/-! ## The kinds -/

/-- The control messages. -/
inductive MsgKind where
  | setLane | setCarousel | readLanes
  | setSeat | setSeatRange | readSeat | setSeatLine | readLine
  | setAudio
  | setRoute | writeStops | readStops | position | tour
  | announce | clipStart | clipEnd | cancel | setChime | readQueue | setAnnounce
  | setScene | setPattern | applyScene | setZones | readZones
  | setCue | marker | setAmbient | readCues
  | readStatus | setNotices | readNotices | clearNotices | setProfile | restart
  deriving DecidableEq, Repr

/-- The kind code of each message, as the chapters give it. -/
def kindCode : MsgKind → BitVec 6
  | .setLane => 0x01#6
  | .setCarousel => 0x02#6
  | .readLanes => 0x03#6
  | .setSeat => 0x08#6
  | .setSeatRange => 0x09#6
  | .readSeat => 0x0A#6
  | .setSeatLine => 0x0B#6
  | .readLine => 0x0C#6
  | .setAudio => 0x10#6
  | .setRoute => 0x18#6
  | .writeStops => 0x19#6
  | .readStops => 0x1A#6
  | .position => 0x1B#6
  | .tour => 0x1C#6
  | .announce => 0x20#6
  | .clipStart => 0x21#6
  | .clipEnd => 0x22#6
  | .cancel => 0x23#6
  | .setChime => 0x24#6
  | .readQueue => 0x25#6
  | .setAnnounce => 0x26#6
  | .setScene => 0x28#6
  | .setPattern => 0x29#6
  | .applyScene => 0x2A#6
  | .setZones => 0x2B#6
  | .readZones => 0x2C#6
  | .setCue => 0x30#6
  | .marker => 0x31#6
  | .setAmbient => 0x32#6
  | .readCues => 0x33#6
  | .readStatus => 0x38#6
  | .setNotices => 0x39#6
  | .readNotices => 0x3A#6
  | .clearNotices => 0x3B#6
  | .setProfile => 0x3C#6
  | .restart => 0x3D#6

/-- Every control message. -/
def allKinds : List MsgKind :=
  [.setLane, .setCarousel, .readLanes, .setSeat, .setSeatRange, .readSeat, .setSeatLine, .readLine, .setAudio,
    .setRoute, .writeStops, .readStops, .position, .tour, .announce, .clipStart, .clipEnd, .cancel, .setChime,
    .readQueue, .setAnnounce, .setScene, .setPattern, .applyScene, .setZones, .readZones, .setCue, .marker,
    .setAmbient, .readCues, .readStatus, .setNotices, .readNotices, .clearNotices, .setProfile, .restart]

/-- The control message of a kind code, if it is one (R26). -/
def kindOf (code : BitVec 6) : Option MsgKind := allKinds.find? fun k => kindCode k == code

/-- The messages that R29 always answers: the reads, and Restart. -/
def alwaysAnswered : MsgKind → Bool
  | .readStatus | .readNotices | .readLanes | .readLine | .readSeat | .readStops | .readQueue | .readZones
  | .readCues | .restart => true
  | .setLane | .setCarousel | .setSeat | .setSeatRange | .setSeatLine | .setAudio | .setRoute | .writeStops
  | .position | .tour | .announce | .clipStart | .clipEnd | .cancel | .setChime | .setAnnounce | .setScene
  | .setPattern | .applyScene | .setZones | .setCue | .marker | .setAmbient | .setNotices | .clearNotices
  | .setProfile => false

/-- The messages whose application can complete the conditions of a cue: an entry can join, be removed or be evicted
(R140). -/
def mayComplete : MsgKind → Bool
  | .position | .tour | .announce | .cancel | .marker => true
  | .setLane | .setCarousel | .readLanes | .setSeat | .setSeatRange | .readSeat | .setSeatLine | .readLine
  | .setAudio | .setRoute | .writeStops | .readStops | .clipStart | .clipEnd | .setChime | .readQueue
  | .setAnnounce | .setScene | .setPattern | .applyScene | .setZones | .readZones | .setCue | .setAmbient
  | .readCues | .readStatus | .setNotices | .readNotices | .clearNotices | .setProfile | .restart => false

/-! ## Replies (R29) -/

/-- Whether a judged message is answered, from its unit field, tag, kind and result (R29). -/
def replyDue (h : MsgHead) (always : Bool) (r : Result) : Bool :=
  always || r != .accepted || (h.unit != 7#3 && h.tag != 0#4)

/-- The Reply (R29, R30). -/
def replyReport (h : MsgHead) (kind : BitVec 6) (r : Result) (data : List Word) : Report :=
  ⟨replyKind, h.tag, [word kind.toNat, word (resultCode r)] ++ data⟩

/-- Queues the Reply where R29 asks for one. -/
def reply (h : MsgHead) (kind : BitVec 6) (r : Result) (data : List Word) (s : State) : State :=
  if replyDue h ((kindOf kind).any alwaysAnswered) r then offerReport (replyReport h kind r data) s else s

end Sys2Proof.Machine
end

