-- ==== Sys2Proof/Machine/AnnounceMessages.lean ====
section
/-! DEFINITION. Announce, Clip Start, Clip End, Cancel, Set Chime, Set Announce and Read Queue (chapter 8), judged
as R26 lays down. -/

namespace Sys2Proof.Machine

/-- Announce (R159). -/
def judgeAnnounce (strict : Bool) (p : List Word) (s : State) : Verdict :=
  judged
    (lengthChecks strict 4 p ++
      [(outside 1 255 (argN p 1) || outside 0 3 (argN p 2) || outside 0 3 (argN p 3) || outside 0 7 (argN p 4),
          .range),
        (s.ann.queue.any (hasKey .general (argN p 1)), .duplicate)])
    s (offer (newEntry .general (argN p 1) (argN p 2) (policyOf (argN p 3)) (argN p 4) s.now) s)

/-- The outcome of a Clip Start against the active entry (R143, R144). -/
def clipStartOutcome (ticket : Nat) (s : State) : Verdict :=
  match activeEntry s with
  | none => refuse .state (offerReport (abortReport ticket .stale) s)
  | some e =>
    if e.ticket = ticket then
      match e.state with
      | .cued =>
        if e.clipStarted then refuse .state s
        else
          let s' := updateActive (fun f => { f with clipStarted := true }) s
          ⟨.accepted, [],
            if s.ann.chime.isNone && !(e.plan.getD []).isEmpty then startPlaying s' else s'⟩
      | .playing => refuse .state s
      | .trailing => refuse .state (offerReport (abortReport ticket .stale) s)
      | .waiting => refuse .state (offerReport (abortReport ticket .stale) s)
    else refuse .state (offerReport (abortReport ticket .stale) s)

/-- The checks of a ticket word (R144, R145). -/
def ticketChecks (strict : Bool) (p : List Word) : List (Bool × Result) :=
  lengthChecks strict 1 p ++ [(outside 1 255 (argN p 1), .range)]

/-- Clip Start (R144). -/
def judgeClipStart (strict : Bool) (p : List Word) (s : State) : Verdict :=
  match firstFailure (ticketChecks strict p) with
  | some r => refuse r s
  | none => clipStartOutcome (argN p 1) s

/-- Whether the active entry is PLAYING with a ticket (R145). -/
def playingTicket (ticket : Nat) (s : State) : Bool :=
  (activeEntry s).any fun e => e.state == .playing && e.ticket == ticket

/-- Clip End (R145). -/
def judgeClipEnd (strict : Bool) (p : List Word) (s : State) : Verdict :=
  judged (ticketChecks strict p ++ [(!playingTicket (argN p 1) s, .state)]) s (toTrailing .clipEnd s)

/-- The entry kind of a code 0 to 2 (R151, R158). -/
def entryKindOf : Nat → EntryKind
  | 0 => .approach
  | 1 => .arrival
  | _ => .general

/-- A word of Cancel lies outside the range its mode gives (R151). -/
def cancelRangeBad (p : List Word) : Bool :=
  match argN p 1 with
  | 0 => outside 1 255 (argN p 2)
  | 1 => outside 0 2 (argN p 2) || outside 1 (if argN p 2 = 2 then 255 else 999) (argN p 3)
  | 2 => false
  | _ => true

/-- The active entry is aborted CANCELLED when it satisfies `p` (R151). -/
def cancelActive (p : Entry → Bool) (s : State) : State :=
  if (activeEntry s).any p then abortActive .cancelled s else s

/-- The effects of Cancel (R151). -/
def cancelAction (p : List Word) (s : State) : State :=
  match argN p 1 with
  | 0 => cancelActive (fun e => e.ticket == argN p 2) s
  | 1 =>
    let match_ := hasKey (entryKindOf (argN p 2)) (argN p 3)
    removeWaiting match_ (cancelActive match_ s)
  | _ => removeWaiting (fun _ => true) (cancelActive (fun _ => true) s)

/-- Cancel (R151). -/
def judgeCancel (strict : Bool) (p : List Word) (s : State) : Verdict :=
  judged (lengthChecks strict 3 p ++ [(cancelRangeBad p, .range)]) s (cancelAction p s)

/-- The notes of a Set Chime payload (R157). -/
def notesOf (p : List Word) : List Note :=
  (List.range (argN p 2)).map fun k => ⟨argN p (3 * k + 3), argN p (3 * k + 4), argN p (3 * k + 5)⟩

/-- A field of a note lies outside its range (R155). -/
def noteRangeBad (n : Note) : Bool :=
  outside 4 64 n.divider || outside 20 1000 n.duration || outside 0 32767 n.level

/-- Set Chime (R157). -/
def judgeSetChime (strict : Bool) (p : List Word) (s : State) : Verdict :=
  judged
    (countChecks strict 2 4 (2 + 3 * argN p 2) p ++
      [(outside 0 3 (argN p 1) || (notesOf p).any noteRangeBad, .range)])
    s (s.withAnn { s.ann with slots := setAt s.ann.slots (Fin.ofNat 4 (argN p 1)) (notesOf p) })

/-- Set Announce (R160). -/
def judgeSetAnnounce (strict : Bool) (p : List Word) (s : State) : Verdict :=
  judged
    (lengthChecks strict 4 p ++
      [reservedCheck strict (above 0 (arg p 4)),
        (outside 500 8000 (argN p 1) || outside 100 2000 (argN p 2) || outside 0 10000 (argN p 3), .range)])
    s (s.withAnn { s.ann with
      cueTimeout := argN p 1, silenceHold := argN p 2, replayGap := argN p 3, haltUse := (arg p 4).getLsbD 0 })

/-- The milliseconds until a not-before time, 0 when it is absent or reached (R161). -/
def untilNotBefore (now : Nat) (e : Entry) : Nat := (e.notBefore.getD now) - now

/-- The four Read Queue words of an entry (R161). -/
def entryWords (now : Nat) (e : Entry) : List Word :=
  [word (entryKindCode e.kind + entryStateCode e.state * 4 + e.priority * 16 + policyCode e.policy * 64
      + e.count * 256 + bitNat e.clipStarted * 2048 + bitNat e.heard * 4096),
    word e.subject,
    word (e.ticket + (e.reason.map reasonCode).getD 0 * 256),
    word (untilNotBefore now e)]

/-- The Read Queue data (R161). -/
def readQueueData (s : State) : List Word :=
  [word (s.ann.queue.length + s.ann.ticket * 256),
    word (bitNat s.ann.chime.isSome + ((s.ann.chime.map fun c => c.slot.val).getD 0) * 2)]
    ++ (List.range 6).flatMap (fun k =>
      match s.ann.queue[k]? with
      | none => [0, 0, 0, 0]
      | some e => entryWords s.now e)
    ++ (List.range 4).map fun k =>
      match (activePlan s)[k]? with
      | none => 0
      | some q => pairWord q

/-- Read Queue (R161). -/
def judgeReadQueue (strict : Bool) (p : List Word) (s : State) : Verdict :=
  answered (lengthChecks strict 0 p) s (readQueueData s)

end Sys2Proof.Machine
end

