-- ==== Sys2Proof/Machine/LightMessages.lean ====
section
/-! DEFINITION. Set Scene, Set Pattern, Apply Scene, Set Zones and Read Zones (section 9.6), judged as R26 lays
down. -/

namespace Sys2Proof.Machine

/-- A ring range from its word: first zone in bits 3–0, last zone in bits 11–8 (R174, R188). -/
def rangeOf (w : Word) : ZoneRange := ⟨Fin.ofNat 16 (bits w 0 4), Fin.ofNat 16 (bits w 8 4)⟩

/-- A reserved bit of a ring range word is set (R174, R188). -/
def rangeReserved (w : Word) : Bool := bits w 4 4 != 0 || bits w 12 4 != 0

/-- The items of a Set Scene payload (R174). -/
def itemsOf (p : List Word) : List SceneItem :=
  (List.range (argN p 2)).map fun k => ⟨rangeOf (arg p (3 * k + 3)), argN p (3 * k + 4), argN p (3 * k + 5)⟩

/-- A field of a scene item lies outside its range (R174). -/
def itemRangeBad (it : SceneItem) : Bool := outside 0 1023 it.level || outside 0 10000 it.fade

/-- Set Scene (R174). -/
def judgeSetScene (strict : Bool) (p : List Word) (s : State) : Verdict :=
  judged
    (countChecks strict 2 8 (2 + 3 * argN p 2) p ++
      [reservedCheck strict ((List.range (argN p 2)).any fun k => rangeReserved (arg p (3 * k + 3))),
        (outside 0 15 (argN p 1) || (itemsOf p).any itemRangeBad, .range)])
    s (s.withLights { s.lights with scenes := setAt s.lights.scenes (Fin.ofNat 16 (argN p 1)) (itemsOf p) })

/-- Set Pattern (R175). -/
def judgeSetPattern (strict : Bool) (p : List Word) (s : State) : Verdict :=
  judged
    (lengthChecks strict 4 p ++
      [(outside 0 3 (argN p 1) || outside 1 64 (argN p 3) || outside 0 255 (argN p 4), .range)])
    s (s.withLights { s.lights with
      patterns := setAt s.lights.patterns (Fin.ofNat 4 (argN p 1)) (some ⟨arg p 2, argN p 3, argN p 4⟩) })

/-- Apply Scene (R168, R176). -/
def judgeApplyScene (strict : Bool) (p : List Word) (s : State) : Verdict :=
  judged (lengthChecks strict 1 p ++ [(outside 0 15 (argN p 1), .range)])
    s (s.withLights (applySceneTo s.dog.health (Fin.ofNat 16 (argN p 1)) s.lights))

/-- The lights with new zone settings, zones restepped where their targets change (R176). -/
def writeZoneSettings (h : Health) (floor release : Nat) (l : Lights) : Lights :=
  retarget h h l { l with floor := floor, release := release }

/-- Set Zones (R176). -/
def judgeSetZones (strict : Bool) (p : List Word) (s : State) : Verdict :=
  judged
    (lengthChecks strict 2 p ++ [(outside 0 1023 (argN p 1) || outside 0 10000 (argN p 2), .range)])
    s (s.withLights (writeZoneSettings s.dog.health (argN p 1) (argN p 2) s.lights))

/-- The first Read Zones word of a zone (R178). -/
def zoneWord (h : Health) (floor : Nat) (z : Zone) : Word :=
  word (z.current + bitNat z.overlay.isSome * 1024 + ((z.overlay.map fun o => o.pattern.val).getD 0) * 2048
    + bitNat (z.overlay.isNone && z.current != floored h floor z.base) * 8192)

/-- The Read Zones data (R178). -/
def readZonesData (s : State) : List Word :=
  let l := s.lights
  (List.finRange 16).map (fun i => zoneWord s.dog.health l.floor l.zones[i])
    ++ (List.finRange 16).map (fun i => word l.zones[i].base)
    ++ [word ((l.current.map Fin.val).getD 0 + bitNat l.current.isSome * 16), word l.floor, word l.release,
      word ((List.finRange 4).map fun k => bitNat l.patterns[k].isSome * 2 ^ k.val).sum,
      word ((List.finRange 16).map fun k => bitNat (!l.scenes[k].isEmpty) * 2 ^ k.val).sum]

/-- Read Zones (R178). -/
def judgeReadZones (strict : Bool) (p : List Word) (s : State) : Verdict :=
  answered (lengthChecks strict 0 p) s (readZonesData s)

end Sys2Proof.Machine
end

