-- ==== Sys2Proof/Machine/CueMessages.lean ====
section
/-! DEFINITION. Set Cue, Marker, Read Cues and Set Ambient (chapter 10), judged as R26 lays down. -/

namespace Sys2Proof.Machine

/-- The trigger of a code 0 to 9 (R184). -/
def triggerOf : Nat → TriggerKind
  | 0 => .marker
  | 1 => .announceCued
  | 2 => .announcePlaying
  | 3 => .announceEnded
  | 4 => .stopApproach
  | 5 => .stopArrived
  | 6 => .ambientBand
  | 7 => .trunkLost
  | 8 => .trunkRestored
  | _ => .tour

/-- R184. -/
def triggerCode : TriggerKind → Nat
  | .marker => 0
  | .announceCued => 1
  | .announcePlaying => 2
  | .announceEnded => 3
  | .stopApproach => 4
  | .stopArrived => 5
  | .ambientBand => 6
  | .trunkLost => 7
  | .trunkRestored => 8
  | .tour => 9

/-- The parameter of a trigger code: its highest value, or none where the word is reserved (R184, R188). -/
def paramTop : Nat → Option Nat
  | 0 => some 255
  | 1 => some 3
  | 4 => some 999
  | 5 => some 999
  | 6 => some 4
  | 9 => some 2
  | _ => none

/-- Whether the parameter word of a trigger code is reserved (R188). -/
def paramReserved (code : Nat) : Bool := code == 2 || code == 3 || code == 7 || code == 8

/-- The action of a Set Cue payload (R186, R188). -/
def actionOf (p : List Word) : CueAction :=
  match argN p 7 with
  | 0 => .scene (Fin.ofNat 16 (argN p 8))
  | 1 => .overlay (rangeOf (arg p 8)) (Fin.ofNat 4 (argN p 9)) (argN p 10) (argN p 11)
  | 2 => .clear (rangeOf (arg p 8))
  | 3 => .headsetCeiling (argN p 8)
  | 4 => .paCeiling (argN p 8)
  | 5 => .paSource (paSourceOf (argN p 8))
  | 6 => .duckDepth (argN p 8)
  | _ => .announce (argN p 8) (argN p 9) (policyOf (argN p 10)) (argN p 11)

/-- A reserved field of the action values is set (R188). -/
def actionReserved (p : List Word) : Bool :=
  match argN p 7 with
  | 0 => arg p 9 != 0 || arg p 10 != 0 || arg p 11 != 0
  | 1 => rangeReserved (arg p 8)
  | 2 => rangeReserved (arg p 8) || arg p 9 != 0 || arg p 10 != 0 || arg p 11 != 0
  | 3 => arg p 9 != 0 || arg p 10 != 0 || arg p 11 != 0
  | 4 => arg p 9 != 0 || arg p 10 != 0 || arg p 11 != 0
  | 5 => arg p 9 != 0 || arg p 10 != 0 || arg p 11 != 0
  | 6 => arg p 9 != 0 || arg p 10 != 0 || arg p 11 != 0
  | _ => false

/-- An action value lies outside its range, or the action code is unknown (R186, R188). -/
def actionRangeBad (p : List Word) : Bool :=
  match argN p 7 with
  | 0 => outside 0 15 (argN p 8)
  | 1 => outside 0 3 (argN p 9) || outside 0 1023 (argN p 10) || outside 0 1023 (argN p 11)
  | 2 => false
  | 3 => outside 1 15 (argN p 8)
  | 4 => outside 1 15 (argN p 8)
  | 5 => outside 0 2 (argN p 8)
  | 6 => outside 0 8 (argN p 8)
  | 7 => outside 1 255 (argN p 8) || outside 0 3 (argN p 9) || outside 0 3 (argN p 10) || outside 0 7 (argN p 11)
  | _ => true

/-- The cue of a Set Cue payload (R188); a reserved parameter reads as 0. -/
def cueOf (p : List Word) : Cue :=
  ⟨(arg p 2).getLsbD 0, triggerOf (argN p 3), if paramReserved (argN p 3) then 0 else argN p 4,
    (arg p 5).setWidth 4, argN p 6, actionOf p⟩

/-- An ANNOUNCE action on an ANNOUNCE trigger (R188, check 2). -/
def announceLoop (p : List Word) : Bool := argN p 7 == 7 && !outside 1 3 (argN p 3)

/-- Set Cue (R188). -/
def judgeSetCue (strict : Bool) (p : List Word) (s : State) : Verdict :=
  judged
    (lengthChecks strict 11 p ++
      [reservedCheck strict (above 0 (arg p 2) || above 3 (arg p 5)
          || (paramReserved (argN p 3) && arg p 4 != 0) || actionReserved p),
        (outside 0 31 (argN p 1) || outside 0 9 (argN p 3) || (paramTop (argN p 3)).any (fun t => outside 0 t (argN p 4))
          || outside 0 255 (argN p 6) || actionRangeBad p, .range),
        (announceLoop p, .range)])
    s (s.withCues { s.cues with table := setAt s.cues.table (Fin.ofNat 32 (argN p 1)) (cueOf p) })

/-- Marker (R189). -/
def judgeMarker (strict : Bool) (p : List Word) (s : State) : Verdict :=
  judged (lengthChecks strict 1 p ++ [(outside 0 255 (argN p 1), .range)]) s (raise ⟨.marker, argN p 1⟩ s)

/-- A ring range as its word (R188). -/
def rangeWord (r : ZoneRange) : Word := word (r.first.val + r.last.val * 256)

/-- The code of an action and its four values as in Set Cue (R186, R190). -/
def actionWords : CueAction → Nat × List Word
  | .scene n => (0, [word n.val, 0, 0, 0])
  | .overlay r p on off => (1, [rangeWord r, word p.val, word on, word off])
  | .clear r => (2, [rangeWord r, 0, 0, 0])
  | .headsetCeiling k => (3, [word k, 0, 0, 0])
  | .paCeiling k => (4, [word k, 0, 0, 0])
  | .paSource q => (5, [word (paSourceCode q), 0, 0, 0])
  | .duckDepth d => (6, [word d, 0, 0, 0])
  | .announce phrase priority policy count =>
    (7, [word phrase, word priority, word (policyCode policy), word count])

/-- The seven Read Cues words of a cue (R190). -/
def cueWords (c : Cue) : List Word :=
  [word (bitNat c.enabled + triggerCode c.trigger * 16 + (actionWords c.action).1 * 256 + c.mask.toNat * 4096),
    word c.param, word c.threshold] ++ (actionWords c.action).2

/-- The first seven Read Cues words (R190). -/
def ambientWords (u : CueUnit) : List Word :=
  let a := u.ambient
  [word (bandCode a.confirmed + bandCode a.candidate * 8 + bitNat a.smoothed.isSome * 64),
    word (a.smoothed.getD 0 + a.last * 256), word a.run, word a.invalidRun, word (a.t1 + a.t2 * 256),
    word (a.t3 + a.dwell * 256),
    word ((List.finRange 16).map fun k => bitNat u.table[k.castLE (by decide : 16 ≤ 32)].enabled * 2 ^ k.val).sum]

/-- Read Cues (R190). -/
def judgeReadCues (strict : Bool) (p : List Word) (s : State) : Verdict :=
  answered
    (lengthChecks strict 2 p ++
      [(outside 0 31 (argN p 1) || outside 0 4 (argN p 2) || decide (32 < argN p 1 + argN p 2), .range)])
    s (ambientWords s.cues
      ++ ((s.cues.table.toList.drop (argN p 1)).take (argN p 2)).flatMap cueWords)

/-- Set Ambient (R183). -/
def judgeSetAmbient (strict : Bool) (p : List Word) (s : State) : Verdict :=
  judged
    (lengthChecks strict 4 p ++
      [(outside 0 255 (argN p 1) || outside 0 255 (argN p 2) || outside 0 255 (argN p 3) || outside 1 60 (argN p 4)
          || !decide (argN p 1 < argN p 2) || !decide (argN p 2 < argN p 3), .range)])
    s (s.withCues { s.cues with ambient :=
      { s.cues.ambient with t1 := argN p 1, t2 := argN p 2, t3 := argN p 3, dwell := argN p 4 } })

end Sys2Proof.Machine
end

