-- ==== Sys2Proof/Machine/LaneMessages.lean ====
section
/-! DEFINITION. Set Lane, Set Carousel and Read Lanes (sections 3.5 to 3.7), judged as R26 lays down. -/

namespace Sys2Proof.Machine

/-- A lane entry from the payload of Set Lane (R51). -/
def laneEntryOf (p : List Word) : LaneEntry := ⟨laneKindOf (argN p 2), argN p 3, argN p 4, argN p 5⟩

/-- A field of Set Lane lies outside its range (R51, check 1). -/
def laneRangeBad (p : List Word) : Bool :=
  outside 0 11 (argN p 1) || outside 0 3 (argN p 2) || outside 0 32767 (argN p 4) || outside 0 15 (argN p 5)
    || (if argN p 2 = 1 ∨ argN p 2 = 2 then outside 1 63 (argN p 3) else outside 0 0 (argN p 3))

/-- The lane table with the named entry replaced (R52). -/
def writeLane (p : List Word) (lanes : Vector LaneEntry 12) : Vector LaneEntry 12 :=
  setAt lanes (Fin.ofNat 12 (argN p 1)) (laneEntryOf p)

/-- The two limits of the lane table (R43). -/
def laneLimits (lanes : Vector LaneEntry 12) : Bool :=
  decide (countKind .announce lanes ≤ 4) && decide (countKind .bed lanes ≤ 1)

/-- Set Lane (R51, R52). -/
def judgeSetLane (strict : Bool) (p : List Word) (s : State) : Verdict :=
  judged
    (lengthChecks strict 5 p ++
      [(laneRangeBad p, .range),
        ((heldLanes s).contains (Fin.ofNat 12 (argN p 1)), .inUse),
        (!laneLimits (writeLane p s.prog.lanes), .full)])
    s (s.withProg { s.prog with lanes := writeLane p s.prog.lanes })

/-- The tags of a Set Carousel payload (R53). -/
def carouselTags (p : List Word) : List Nat := ((p.drop 1).take (argN p 1)).map BitVec.toNat

/-- The state with a new carousel, the seats whose language left it moved (R54). -/
def replaceCarousel (tags : List Nat) (s : State) : State :=
  (s.withProg { s.prog with carousel := tags }).withSeats
    { s.seats with records := mapTable (rehome tags) s.seats.records }

/-- Set Carousel (R53, R54). -/
def judgeSetCarousel (strict : Bool) (p : List Word) (s : State) : Verdict :=
  judged
    (countChecks strict 1 12 (1 + argN p 1) p ++
      [((carouselTags p).any (outside 1 63), .range), (!decide (carouselTags p).Nodup, .duplicate)])
    s (replaceCarousel (carouselTags p) s)

/-- The two Read Lanes words of one lane (R55). -/
def laneWords (e : LaneEntry) (m : LaneMeter) : List Word :=
  [word (laneKindCode e.kind + e.tag * 4 + e.silence * 256 + m.level * 4096),
    word (e.trim + bitNat m.quiet * 32768)]

/-- The held set as a mask (R55). -/
def heldMask (s : State) : Nat :=
  ((List.finRange 12).map fun i => if (heldLanes s).contains i then 2 ^ i.val else 0).sum

/-- The Read Lanes data (R55). -/
def readLanesData (s : State) : List Word :=
  (List.finRange 12).flatMap (fun i => laneWords s.prog.lanes[i] s.meter.lanes[i])
    ++ [word (heldMask s), word s.prog.carousel.length]
    ++ (List.range 6).map fun k =>
      word (s.prog.carousel.getD (2 * k) 0 + s.prog.carousel.getD (2 * k + 1) 0 * 256)

/-- Read Lanes (R55). -/
def judgeReadLanes (strict : Bool) (p : List Word) (s : State) : Verdict :=
  answered (lengthChecks strict 0 p) s (readLanesData s)

end Sys2Proof.Machine
end

