-- ==== Sys2Proof/Machine/Mixer.lean ====
section
/-! DEFINITION. The seat mix: scaling, the volume table, effective steps, the two ramps, the inputs of a record and
the seven stages (chapter 6). Samples and intermediate values are integers, which R100 bounds. -/

namespace Sys2Proof.Machine

/-! ## Gains -/

/-- The scaling operation R(x, g) (R94). -/
def scale (x : Int) (g : Nat) : Int := (x * (g : Int) + 16384) / 32768

/-- The volume table (R102). -/
def volumeTable : List Nat :=
  [0, 1304, 1642, 2067, 2603, 3277, 4125, 5193, 6538, 8231, 10362, 13045, 16422, 20675, 26028, 32767]

/-- The gain of a volume step, 0 to 15 (R102). -/
def volumeGain (step : Nat) : Nat := volumeTable.getD step 0

/-- The ceiling that applies to a record (R103). -/
def ceilingOf (a : AudioSettings) (i : Fin 65) : Nat := if i = paIndex then a.paCeiling else a.headsetCeiling

/-- The effective programme step (R103). -/
def programmeStep (a : AudioSettings) (i : Fin 65) (step : Nat) : Nat := min step (ceilingOf a i)

/-- The effective announcement step (R103). -/
def announceStep (a : AudioSettings) (i : Fin 65) (step : Nat) : Nat :=
  max (programmeStep a i step) (min a.announceFloor (ceilingOf a i))

/-- The depth gain of a duck depth (R105). -/
def depthGain (depth : Nat) : Nat := if depth ≤ 7 then Config.fullGain / 2 ^ depth else 0

/-- The duck target (R105). -/
def duckTarget (s : State) : Nat := if lampLit s then depthGain s.mixer.audio.duckDepth else Config.fullGain

/-- One step of the duck gain ramp (R106). -/
def duckStep (s : State) : Nat :=
  moveToward (duckTarget s) s.mixer.audio.release s.mixer.audio.attack s.mixer.duck

/-- One step of a record's volume gain ramp (R104). -/
def volumeStep (s : State) (i : Fin 65) : Nat :=
  moveToward (volumeGain (programmeStep s.mixer.audio i s.seats.records[i].step)) Config.volumeStep Config.volumeStep
    s.mixer.volumes[i]

/-- The ramp steps of an output frame (R95). -/
def rampStep (s : State) : State :=
  s.withMixer { s.mixer with duck := duckStep s, volumes := Vector.ofFn (volumeStep s) }

/-- The volume gains as Restart sets them, without a ramp (R110). -/
def restartVolume (a : AudioSettings) (i : Fin 65) : Nat := volumeGain (programmeStep a i a.defaultStep)

/-! ## Inputs -/

/-- A lane's sample in a frame, 0 when the lane is absent in its mask (R96, R97). -/
def laneSample (f : LaneFrame) (i : Fin 12) : Int := if f.mask.getLsbD i.val then f.samples[i] else 0

/-- An input sample and its trim. -/
structure Input where
  sample : Int
  trim : Nat
  deriving DecidableEq, Repr

/-- No input: sample 0, trim 0. -/
def Input.none : Input := ⟨0, 0⟩

/-- The input a lane gives, if there is one: its sample in the frame and its trim as the lane table stands (R96,
R97). -/
def laneInput (f : LaneFrame) (p : Programme) : Option (Fin 12) → Input
  | some i => ⟨laneSample f i, p.lanes[i].trim⟩
  | .none => Input.none

/-- Whether a record is the PA record under ANNOUNCE_ONLY (R96). -/
def announceOnly (s : State) (i : Fin 65) : Bool := i == paIndex && s.seats.paSource == .announceOnly

/-- The commentary input of a record (R96). -/
def commentaryInput (s : State) (f : LaneFrame) (i : Fin 65) : Input :=
  if announceOnly s i then Input.none else laneInput f s.prog s.seats.records[i].sounding

/-- The bed input of a record (R96). -/
def bedInput (s : State) (f : LaneFrame) (i : Fin 65) : Input :=
  if announceOnly s i then Input.none else laneInput f s.prog (bedLane s.prog)

/-- A record's plan lane, from the plan and the record's language (R97). -/
def planLane (plan : List PlanPair) (language : Option Nat) : Option (Fin 12) :=
  match plan.find? fun q => language == some q.language with
  | some q => some q.lane
  | .none => plan.head?.map (·.lane)

/-- The announcement input of a record: its plan lane's while the active entry is PLAYING (R97). -/
def announceInput (s : State) (f : LaneFrame) (i : Fin 65) : Input :=
  if announceState s = some .playing then
    laneInput f s.prog (planLane (activePlan s) s.seats.records[i].language)
  else Input.none

/-! ## The stages -/

/-- Clamped to −32767 to +32767 (R101). -/
def clampSample (x : Int) : Int := max (-32767) (min 32767 x)

/-- The seven stages (R99): commentary `c`, bed `b`, announcement `a`, chime `t`, and the four gains. -/
def stages (c b a : Input) (t : Int) (duck fade vol ann : Nat) : Int :=
  let p := scale (scale c.sample c.trim) duck
  let q := scale (scale b.sample b.trim) duck
  let v := scale (scale (p + q) fade) vol
  clampSample (v + scale (scale a.sample a.trim) ann + scale t ann)

/-- The sample of a record in a frame, `t` the chime's (R78, R99). -/
def mixRecord (s : State) (f : LaneFrame) (t : Int) (i : Fin 65) : Int :=
  if seatState s i = .listening then
    stages (commentaryInput s f i) (bedInput s f i) (announceInput s f i) t s.mixer.duck s.seats.records[i].fade
      s.mixer.volumes[i] (volumeGain (announceStep s.mixer.audio i s.seats.records[i].step))
  else 0

/-- The samples of all records (R95). -/
def mix (s : State) (f : LaneFrame) (t : Int) : Vector Int 65 := Vector.ofFn (mixRecord s f t)

end Sys2Proof.Machine
end

