-- ==== Sys2Proof/Machine/RouteMessages.lean ====
section
/-! DEFINITION. Set Route, Write Stops, Read Stops, Position and Tour (chapter 7), judged as R26 lays down. -/

namespace Sys2Proof.Machine

/-- The clean route of an accepted Set Route (R112). -/
def cleanRoute (p : List Word) (session : Session) : Route :=
  ⟨argN p 1, (arg p 2).getLsbD 0, argN p 3, argN p 4, 0, 0, 0, 0, .invalid, false, 0, [], session⟩

/-- Set Route (R111, R112). -/
def judgeSetRoute (strict : Bool) (p : List Word) (s : State) : Verdict :=
  judged
    (lengthChecks strict 4 p ++
      [reservedCheck strict (above 0 (arg p 2)),
        (outside 100 65535 (argN p 1) || outside 0 1000 (argN p 3) || outside 0 2500 (argN p 4), .range),
        (s.route.session != .idle, .state),
        (s.ann.queue.any fun e => e.kind != .general, .inUse)])
    s (setRoute (cleanRoute p s.route.session) s)

/-- Entry `k` (from 0) of a Write Stops payload (R121). -/
def stopAt (p : List Word) (k : Nat) : Stop :=
  let flags := arg p (5 * k + 7)
  ⟨argN p (5 * k + 3), argN p (5 * k + 4), argN p (5 * k + 5), argN p (5 * k + 6), flags.getLsbD 0,
    flags.getLsbD 1, bits flags 2 2, policyOf (bits flags 4 2), bits flags 6 3, .pending⟩

/-- The entries of a Write Stops payload, each PENDING (R121, R122). -/
def writtenStops (p : List Word) : List Stop := (List.range (argN p 2)).map (stopAt p)

/-- A field of a stop lies outside its range, for a route of length `l` (R120, R121). -/
def stopRangeBad (l : Nat) (st : Stop) : Bool :=
  outside 1 999 st.number || outside 0 l st.metre || outside 0 2000 st.approach || outside 5 100 st.radius
    || outside 0 2 st.priority

/-- The stop table with a run of entries in place (R122). -/
def placeStops (first : Nat) (written stops : List Stop) : List Stop :=
  stops.take first ++ written ++ stops.drop (first + written.length)

/-- A list of route metres in strictly increasing order (R120). -/
def increasing : List Nat → Bool
  | [] => true
  | [_] => true
  | a :: b :: l => decide (a < b) && increasing (b :: l)

/-- The route metres that check 3 of R121 judges: the written run between its neighbours. -/
def runMetres (first : Nat) (written stops : List Stop) : List Nat :=
  ((stops.take first).getLast?.toList ++ written ++ (stops.drop (first + written.length)).head?.toList).map (·.metre)

/-- Write Stops (R121, R122). -/
def judgeWriteStops (strict : Bool) (p : List Word) (s : State) : Verdict :=
  let first := argN p 1
  let count := argN p 2
  let stops := s.route.stops
  let written := writtenStops p
  judged
    (countChecks strict 2 8 (2 + 5 * count) p ++
      [reservedCheck strict ((List.range count).any fun k => above 8 (arg p (5 * k + 7))),
        (outside 0 119 first || decide (stops.length < first) || decide (Config.stopDepth < first + count)
          || written.any (stopRangeBad s.route.length), .range),
        (((stops.drop first).take count).any fun st => s.ann.queue.any (ofStop st.number), .inUse),
        (count != 0 && !increasing (runMetres first written stops), .order),
        (count != 0 && !decide ((placeStops first written stops).map (·.number)).Nodup, .duplicate)])
    s (setRoute { s.route with stops := placeStops first written stops } s)

/-- The five Read Stops words of a stop (R123). -/
def stopWords (st : Stop) : List Word :=
  [word st.number, word st.metre, word st.approach, word st.radius,
    word (bitNat st.approachFlag + bitNat st.arrivalFlag * 2 + st.priority * 4 + policyCode st.policy * 16
      + st.count * 64 + lapCode st.lap * 512)]

/-- Read Stops (R123). -/
def judgeReadStops (strict : Bool) (p : List Word) (s : State) : Verdict :=
  answered
    (lengthChecks strict 2 p ++
      [(outside 0 7 (argN p 2) || decide (s.route.stops.length < argN p 1 + argN p 2), .range)])
    s ([word s.route.stops.length, word (nextStopNumber s.route)]
      ++ ((s.route.stops.drop (argN p 1)).take (argN p 2)).flatMap stopWords)

/-- Position (R114 to R116). -/
def judgePosition (strict : Bool) (p : List Word) (s : State) : Verdict :=
  judged
    (lengthChecks strict 3 p ++
      [reservedCheck strict (above 7 (arg p 1) || bits (arg p 3) 12 3 != 0)])
    s (if (arg p 3).getLsbD 15 then takeFix (bits (arg p 1) 0 8 * 65536 + argN p 2) (bits (arg p 3) 0 12) s
      else takeInvalidFix s)

/-- A Tour action that the session does not take (R131). -/
def tourStateBad (action : Nat) (session : Session) : Bool :=
  (action == 1 && session != .running) || (action == 2 && session != .layover)

/-- The effects of a Tour action (R131 to R134). -/
def tourAction (action : Nat) (s : State) : State :=
  match action with
  | 0 => tourStart s
  | 1 => tourPause s
  | 2 => tourResume s
  | _ => tourEnd s

/-- Tour (R131). -/
def judgeTour (strict : Bool) (p : List Word) (s : State) : Verdict :=
  judged
    (lengthChecks strict 1 p ++
      [(outside 0 3 (argN p 1), .range), (tourStateBad (argN p 1) s.route.session, .state)])
    s (tourAction (argN p 1) s)

end Sys2Proof.Machine
end

