-- ==== Sys2Proof/Machine/SeatMessages.lean ====
section
/-! DEFINITION. Set Seat Line, Read Line, Set Seat, Set Seat Range, Read Seat and Set Audio (sections 4.7, 4.8,
5.6, 5.7, 6.7), judged as R26 lays down. -/

namespace Sys2Proof.Machine

/-! ## Seat lines -/

/-- The line a Set Seat Line or Read Line names (R70, R73). -/
def lineOf (p : List Word) : Fin 4 := Fin.ofNat 4 (argN p 1)

/-- A field of Set Seat Line lies outside its range, or the thresholds are not ordered (R70). -/
def lineRangeBad (p : List Word) : Bool :=
  outside 0 3 (argN p 1) || outside 0 255 (argN p 3) || outside 0 255 (argN p 4) || outside 1 255 (argN p 5)
    || decide (argN p 3 ≤ argN p 4)

/-- A line under new settings (R71): disabling forgets its runtime state and abandons its pending poll. -/
def writeLine (enabled : Bool) (openT shortT debounce : Nat) (l : SeatLine) : SeatLine :=
  if enabled then
    { l with enabled := true, openThreshold := openT, shortThreshold := shortT, debounce := debounce }
  else SeatLine.cleared false openT shortT debounce

/-- Set Seat Line (R70, R71). -/
def judgeSetSeatLine (strict : Bool) (p : List Word) (s : State) : Verdict :=
  judged
    (lengthChecks strict 5 p ++ [reservedCheck strict (above 0 (arg p 2)), (lineRangeBad p, .range)])
    s (s.withLines (setAt s.lines (lineOf p)
      (writeLine ((arg p 2).getLsbD 0) (argN p 3) (argN p 4) (argN p 5) s.lines[lineOf p])))

/-- The code of a reach state (R73). -/
def reachCode : Reach → Nat
  | .unknown => 0
  | .reachable => 1
  | .lost => 2

/-- The code of a class, 0 for none or UNKNOWN (R73). -/
def classCode : Option JackClass → Nat
  | none => 0
  | some .unplugged => 1
  | some .headset => 2
  | some .short => 3

/-- The Read Line data (R73). -/
def readLineData (l : SeatLine) : List Word :=
  [word (bitNat l.enabled + l.pollPos.val * 2), word (l.openThreshold + l.shortThreshold * 256), word l.debounce,
    word ((List.finRange 8).map fun b => reachCode l.boxes[b].reach * 4 ^ b.val).sum]
    ++ (List.finRange 8).map (fun b => word (l.boxes[b].missRun + l.boxes[b].goodRun * 256))
    ++ (List.finRange 16).map fun k =>
      word (classCode l.jacks[k].confirmed + classCode l.jacks[k].candidate * 4 + l.jacks[k].level * 256)

/-- Read Line (R73). -/
def judgeReadLine (strict : Bool) (p : List Word) (s : State) : Verdict :=
  answered (lengthChecks strict 1 p ++ [(outside 0 3 (argN p 1), .range)]) s (readLineData s.lines[lineOf p])

/-! ## Seat writes -/

/-- The field mask and value words of a seat write: ENABLE, LANGUAGE, VOLUME, LOCKS, PA_SOURCE (R88). -/
structure SeatWrite where
  mask : Word
  enable : Word
  language : Nat
  volume : Nat
  locks : Word
  source : Nat
  deriving DecidableEq, Repr

/-- The six words of a seat write from word `n` of a payload on (R88, R90). -/
def seatWriteAt (p : List Word) (n : Nat) : SeatWrite :=
  ⟨arg p n, arg p (n + 1), argN p (n + 2), argN p (n + 3), arg p (n + 4), argN p (n + 5)⟩

/-- A reserved bit of an examined field is set (R88). -/
def seatReserved (f : SeatWrite) : Bool :=
  above 4 f.mask || (f.mask.getLsbD 0 && above 0 f.enable) || (f.mask.getLsbD 3 && above 1 f.locks)

/-- A selected language is refused (R88): out of range, no carousel member, or NONE while the carousel is not empty. -/
def languageBad (carousel : List Nat) (t : Nat) : Bool :=
  outside 0 63 t || (if t = 0 then !carousel.isEmpty else !carousel.contains t)

/-- A selected field of a seat write lies outside its range (R88, R90); `hasPa` when the records written include
record 64. -/
def seatFieldsBad (carousel : List Nat) (hasPa : Bool) (f : SeatWrite) : Bool :=
  (f.mask.getLsbD 1 && languageBad carousel f.language) || (f.mask.getLsbD 2 && outside 0 15 f.volume)
    || (f.mask.getLsbD 4 && (outside 0 2 f.source || !hasPa))

/-- A record with the selected fields written (R89). -/
def writeSeat (f : SeatWrite) (r : SeatRecord) : SeatRecord :=
  { r with
    enabled := if f.mask.getLsbD 0 then f.enable.getLsbD 0 else r.enabled
    language := if f.mask.getLsbD 1 then (if f.language = 0 then none else some f.language) else r.language
    step := if f.mask.getLsbD 2 then f.volume else r.step
    languageLock := if f.mask.getLsbD 3 then f.locks.getLsbD 0 else r.languageLock
    volumeLock := if f.mask.getLsbD 3 then f.locks.getLsbD 1 else r.volumeLock }

/-- The records `first` to `last` with the selected fields written, and the PA source where it is selected and record
64 is among them (R89, R90). -/
def writeSeats (first last : Nat) (f : SeatWrite) (t : SeatTable) : SeatTable where
  records := Vector.ofFn fun i =>
    if first ≤ i.val ∧ i.val ≤ last then writeSeat f t.records[i] else t.records[i]
  paSource := if f.mask.getLsbD 4 && decide (first ≤ 64) && decide (64 ≤ last) then paSourceOf f.source else t.paSource

/-- Set Seat (R88, R89). -/
def judgeSetSeat (strict : Bool) (p : List Word) (s : State) : Verdict :=
  let f := seatWriteAt p 2
  judged
    (lengthChecks strict 7 p ++
      [reservedCheck strict (seatReserved f),
        (outside 0 64 (argN p 1) || seatFieldsBad s.prog.carousel (argN p 1 == 64) f, .range)])
    s (s.withSeats (writeSeats (argN p 1) (argN p 1) f s.seats))

/-- Set Seat Range (R90). -/
def judgeSetSeatRange (strict : Bool) (p : List Word) (s : State) : Verdict :=
  let f := seatWriteAt p 3
  judged
    (lengthChecks strict 8 p ++
      [reservedCheck strict (seatReserved f),
        (outside 0 64 (argN p 1) || outside 0 64 (argN p 2) || decide (argN p 2 < argN p 1)
          || seatFieldsBad s.prog.carousel (decide (argN p 1 ≤ 64) && decide (64 ≤ argN p 2)) f, .range)])
    s (s.withSeats (writeSeats (argN p 1) (argN p 2) f s.seats))

/-- The Read Seat data (R92). -/
def readSeatData (i : Fin 65) (s : State) : List Word :=
  let r := s.seats.records[i]
  let pa := i = paIndex
  let line := s.lines[seatLine i]
  [word (seatStateCode (seatState s i) + bitNat r.enabled * 8 + bitNat r.languageLock * 16
      + bitNat r.volumeLock * 32 + (if pa then paSourceCode s.seats.paSource * 64 else 0)),
    word (r.language.getD 0 + languageIndex s.prog r.language * 256),
    word ((r.sounding.map Fin.val).getD 0 + bitNat r.sounding.isSome * 16 + phaseCode r.phase * 32),
    word r.fade,
    word r.step,
    word s.mixer.volumes[i],
    word r.holdoff,
    word (if pa then 0
      else classCode line.jacks[seatPlace i].confirmed + reachCode line.boxes[seatBox i].reach * 4)]

/-- Read Seat (R92). -/
def judgeReadSeat (strict : Bool) (p : List Word) (s : State) : Verdict :=
  answered (lengthChecks strict 1 p ++ [(outside 0 64 (argN p 1), .range)]) s
    (readSeatData (Fin.ofNat 65 (argN p 1)) s)

/-! ## Audio -/

/-- The audio settings of a Set Audio payload (R107). -/
def audioOf (p : List Word) : AudioSettings :=
  ⟨argN p 1, argN p 2, argN p 3, argN p 4, argN p 5, argN p 6, argN p 7⟩

/-- A word of Set Audio lies outside its range (R107). -/
def audioRangeBad (p : List Word) : Bool :=
  outside 0 8 (argN p 1) || outside 1 2048 (argN p 2) || outside 1 2048 (argN p 3) || outside 1 15 (argN p 4)
    || outside 1 15 (argN p 5) || outside 0 15 (argN p 6) || outside 0 15 (argN p 7)

/-- Set Audio (R107, R108). -/
def judgeSetAudio (strict : Bool) (p : List Word) (s : State) : Verdict :=
  judged (lengthChecks strict 7 p ++ [(audioRangeBad p, .range)]) s (setAudio (audioOf p) s)

end Sys2Proof.Machine
end

