-- ==== Sys2Proof/Machine/StatusMessages.lean ====
section
/-! DEFINITION. Read Status, the notice messages, Set Profile and Restart (sections 2.7, 2.8), and the judge of
every kind. -/

namespace Sys2Proof.Machine

/-! ## Notices -/

/-- A notice mask's reserved bits 15–12 are not 0 (R37). -/
def maskReserved (w : Word) : Bool := above 11 w

/-- Set Notices (R38). -/
def judgeSetNotices (strict : Bool) (p : List Word) (s : State) : Verdict :=
  judged (lengthChecks strict 1 p ++ [reservedCheck strict (maskReserved (arg p 1))]) s
    (s.withNotices { s.notices with enables := (arg p 1).setWidth 12 })

/-- Clear Notices (R38). -/
def judgeClearNotices (strict : Bool) (p : List Word) (s : State) : Verdict :=
  judged (lengthChecks strict 1 p ++ [reservedCheck strict (maskReserved (arg p 1))]) s
    (s.withNotices { s.notices with causes := s.notices.causes &&& ~~~ (arg p 1).setWidth 12 })

/-- The mask of a Read Notices view (R38). -/
def noticeView (n : Notices) (view : Nat) : BitVec 12 :=
  match view with
  | 0 => n.causes
  | 1 => n.enables
  | _ => n.causes &&& n.enables

/-- Read Notices (R38). -/
def judgeReadNotices (strict : Bool) (p : List Word) (s : State) : Verdict :=
  let view := bits (arg p 1) 0 2
  answered
    (lengthChecks strict 1 p ++ [reservedCheck strict (above 1 (arg p 1)), (view == 3, .range)])
    s [word view, (noticeView s.notices view).setWidth 16]

/-! ## Status and profile -/

/-- The code of a check profile (R39, R40). -/
def profileCode : Profile → Nat
  | .strict => 0
  | .lenient => 1

/-- The active ticket, 0 when no entry is active (R39). -/
def activeTicket (s : State) : Nat := ((activeEntry s).map (·.ticket)).getD 0

/-- The Read Status data (R39). -/
def readStatusData (s : State) : List Word :=
  [word s.counters.badFrames, word s.counters.sequenceGaps, word s.counters.repeatSlips, word s.counters.dropSlips,
    word s.decoder.garbled, word s.reports.lost,
    word (lockCode s.trunk.rx.lock), word (healthCode s.dog.health), word (sessionCode s.route.session),
    word (positionCode s.route.status), word (s.route.estimate / 65536), word (s.route.estimate % 65536),
    word s.route.laps, word (nextStopNumber s.route), word (activeTicket s),
    word s.mixer.audio.duckDepth, word s.mixer.audio.attack, word s.mixer.audio.release,
    word s.mixer.audio.headsetCeiling, word s.mixer.audio.paCeiling, word s.mixer.audio.announceFloor,
    word s.mixer.audio.defaultStep,
    word s.mixer.duck, word (profileCode s.pins.profile), word s.pins.unit.toNat]

/-- The six counters set to 0 (R18, R39). -/
def clearCounters (s : State) : State :=
  ((s.withCounters Counters.zero).withDecoder { s.decoder with garbled := 0 }).withReports
    { s.reports with lost := 0 }

/-- Read Status (R39). -/
def judgeReadStatus (strict : Bool) (p : List Word) (s : State) : Verdict :=
  match firstFailure (lengthChecks strict 1 p ++ [reservedCheck strict (above 0 (arg p 1))]) with
  | some r => refuse r s
  | none => ⟨.accepted, readStatusData s, if (arg p 1).getLsbD 0 then clearCounters s else s⟩

/-- The profile of a Set Profile word 0 or 1 (R40). -/
def profileOf : Nat → Profile
  | 0 => .strict
  | _ => .lenient

/-- Set Profile (R40). -/
def judgeSetProfile (strict : Bool) (p : List Word) (s : State) : Verdict :=
  judged (lengthChecks strict 1 p ++ [(outside 0 1 (argN p 1), .range)]) s
    (s.withPins { s.pins with profile := profileOf (argN p 1) })

/-! ## Restart -/

/-- A seat record at Restart: the Tour Start effect with the holdoff cleared (R93). -/
def restartRecord (p : Programme) (defaultStep : Nat) (r : SeatRecord) : SeatRecord :=
  { tourStartRecord p defaultStep r with holdoff := 0 }

/-- A seat line at Restart (R74). -/
def restartLine (l : SeatLine) : SeatLine :=
  SeatLine.cleared l.enabled l.openThreshold l.shortThreshold l.debounce

/-- The mixer at Restart (R110). -/
def restartMixer (m : Mixer) : Mixer :=
  { m with duck := Config.fullGain, volumes := Vector.ofFn (restartVolume m.audio) }

/-- The route at Restart (R135). -/
def restartRoute (r : Route) : Route :=
  { r with
    stops := r.stops.map fun st => { st with lap := .pending }
    laps := 0, status := .invalid, speed := 0, age := 0, remainder := 0, seeded := false, session := .idle }

/-- The announcement controller at Restart (R162). -/
def restartAnnouncer (a : Announcer) : Announcer :=
  { a with queue := [], ticket := 0, cueTimer := 0, playTimer := 0, silenceRun := 0, chime := none }

/-- The light controller at Restart: every overlay ends (R171, R179). -/
def restartLights (h : Health) (l : Lights) : Lights :=
  { l with zones := mapTable (fun z => if z.overlay.isSome then endOverlay h l z else z) l.zones }

/-- The cue unit at Restart (R191). -/
def restartCues (u : CueUnit) : CueUnit :=
  { u with ambient :=
    { Ambient.initial with t1 := u.ambient.t1, t2 := u.ambient.t2, t3 := u.ambient.t3, dwell := u.ambient.dwell } }

/-- The Restart values of every block (R19, R41, R42, R74, R93, R110, R135, R162, R179, R191). -/
def restartState (s : State) : State :=
  { s with
    counters := Counters.zero
    decoder := Decoder.idle 0
    reports := ReportQueue.empty
    notices := Notices.clear
    lines := mapTable restartLine s.lines
    seats := { s.seats with
      records := mapTable (restartRecord s.prog s.mixer.audio.defaultStep) s.seats.records }
    mixer := restartMixer s.mixer
    route := restartRoute s.route
    ann := restartAnnouncer s.ann
    lights := restartLights s.dog.health s.lights
    cues := restartCues s.cues }

/-- Restart (R41). -/
def judgeRestart (strict : Bool) (p : List Word) (s : State) : Verdict :=
  judged (lengthChecks strict 0 p) s (restartState s)

/-! ## Every kind -/

/-- A message of a kind judged by that kind's checks 4 to 6 of R26. -/
def judgeKind (k : MsgKind) (strict : Bool) (p : List Word) (s : State) : Verdict :=
  match k with
  | .setLane => judgeSetLane strict p s
  | .setCarousel => judgeSetCarousel strict p s
  | .readLanes => judgeReadLanes strict p s
  | .setSeat => judgeSetSeat strict p s
  | .setSeatRange => judgeSetSeatRange strict p s
  | .readSeat => judgeReadSeat strict p s
  | .setSeatLine => judgeSetSeatLine strict p s
  | .readLine => judgeReadLine strict p s
  | .setAudio => judgeSetAudio strict p s
  | .setRoute => judgeSetRoute strict p s
  | .writeStops => judgeWriteStops strict p s
  | .readStops => judgeReadStops strict p s
  | .position => judgePosition strict p s
  | .tour => judgeTour strict p s
  | .announce => judgeAnnounce strict p s
  | .clipStart => judgeClipStart strict p s
  | .clipEnd => judgeClipEnd strict p s
  | .cancel => judgeCancel strict p s
  | .setChime => judgeSetChime strict p s
  | .readQueue => judgeReadQueue strict p s
  | .setAnnounce => judgeSetAnnounce strict p s
  | .setScene => judgeSetScene strict p s
  | .setPattern => judgeSetPattern strict p s
  | .applyScene => judgeApplyScene strict p s
  | .setZones => judgeSetZones strict p s
  | .readZones => judgeReadZones strict p s
  | .setCue => judgeSetCue strict p s
  | .marker => judgeMarker strict p s
  | .setAmbient => judgeSetAmbient strict p s
  | .readCues => judgeReadCues strict p s
  | .readStatus => judgeReadStatus strict p s
  | .setNotices => judgeSetNotices strict p s
  | .readNotices => judgeReadNotices strict p s
  | .clearNotices => judgeClearNotices strict p s
  | .setProfile => judgeSetProfile strict p s
  | .restart => judgeRestart strict p s

end Sys2Proof.Machine
end

