-- ==== Sys2Proof/Machine/Decoder.lean ====
section
/-! DEFINITION. The message decoder: judging a whole message, and the control words that bring one in (sections 2.2,
2.3). -/

namespace Sys2Proof.Machine

/-! ## Judging a message -/

/-- The verdict on a message at its EOM, the checks of R26 in order. -/
def judgeMessage (h : MsgHead) (code : BitVec 6) (p : List Word) (s : State) : Verdict :=
  let strict := s.pins.profile == .strict
  if h.wordLost then refuse .wordLost s
  else match kindOf code with
    | none => refuse .unknownKind s
    | some k => if strict && h.reserved != 0#3 then refuse .reserved s else judgeKind k strict p s

/-- Whether an application may complete the conditions of a cue (R140). -/
def completes (code : BitVec 6) (r : Result) : Bool := r == .accepted && (kindOf code).any mayComplete

/-- The decoder OUTSIDE with an empty buffer; the garbled counter stands. -/
def decoderIdle (s : State) : State := s.withDecoder (Decoder.idle s.decoder.garbled)

/-- A message for this unit at its EOM: judged and applied or refused, its Reply queued, and the cue that the whole
event may complete (R26, R29, R140). -/
def completeMessage (h : MsgHead) (code : BitVec 6) (p : List Word) (s : State) : State :=
  let v := judgeMessage h code p (decoderIdle s)
  let s' := reply h code v.result v.data v.state
  if completes code v.result then tryCue s' else s'

/-- The decoder in DISCARD (R23). -/
def decoderDiscard (s : State) : State :=
  s.withDecoder { Decoder.idle s.decoder.garbled with state := .discard }

/-- A message as it is received whole, its header naming this unit or not (R21, R23): dropped at its header, refused
LENGTH at a 65th payload word, or judged at its EOM. -/
def receive (h : MsgHead) (code : BitVec 6) (p : List Word) (s : State) : State :=
  if !namesUnit s.pins.unit h.unit then decoderDiscard s
  else if Config.messageWords < p.length then decoderDiscard (reply h code .length [] s)
  else completeMessage h code p s

/-! ## Control words -/

/-- A control word that the decoder counts as garbled (R22, R23). -/
def garble (s : State) : State :=
  setCause .controlGarbled (s.withDecoder { s.decoder with garbled := satInc 65535 s.decoder.garbled })

/-- The decoder at the start of a message (R22 to R24). -/
def decoderStart (s : State) : State :=
  s.withDecoder { Decoder.idle s.decoder.garbled with state := .inMessage }

/-- A refusal of the message in progress before its EOM, FRAMING or, with the word-lost mark, WORD_LOST (R23). -/
def refuseFraming (header : Word) (s : State) : State :=
  reply (headOf header s.decoder.wordLost) (headerKind header)
    (if s.decoder.wordLost then .wordLost else .framing) [] s

/-- A word in OUTSIDE that no ESC precedes (R22). -/
def outsideWord (w : Word) (s : State) : State :=
  if w = fillWord then s
  else if w = escWord then s.withDecoder { s.decoder with esc := true }
  else garble s

/-- The second word of a pair in OUTSIDE (R22). -/
def outsidePair (w : Word) (s : State) : State :=
  if w = somWord then decoderStart s
  else if w = abtWord then s.withDecoder { s.decoder with esc := false }
  else garble (s.withDecoder { s.decoder with esc := false })

/-- A data word in IN_MESSAGE: the header, or a payload word (R23). -/
def dataWord (w : Word) (s : State) : State :=
  match s.decoder.header with
  | none =>
    if namesUnit s.pins.unit (headerUnit w) then
      s.withDecoder { s.decoder with esc := false, header := some w }
    else decoderDiscard s
  | some h =>
    if s.decoder.payload.length < Config.messageWords then
      s.withDecoder { s.decoder with esc := false, payload := s.decoder.payload ++ [w] }
    else decoderDiscard (reply (headOf h s.decoder.wordLost) (headerKind h) .length [] s)

/-- A word in IN_MESSAGE that no ESC precedes (R23). -/
def messageWord (w : Word) (s : State) : State :=
  if w = fillWord then s
  else if w = escWord then s.withDecoder { s.decoder with esc := true }
  else dataWord w s

/-- The second word of a pair in IN_MESSAGE (R23). -/
def messagePair (w : Word) (s : State) : State :=
  if w = fillWord ∨ w = escWord then dataWord w s
  else match s.decoder.header with
    | none =>
      if w = somWord then decoderStart s
      else if w = eomWord then decoderIdle (garble s)
      else if w = abtWord then decoderIdle s
      else decoderDiscard (garble s)
    | some h =>
      if w = somWord then decoderStart (refuseFraming h s)
      else if w = eomWord then completeMessage (headOf h s.decoder.wordLost) (headerKind h) s.decoder.payload s
      else if w = abtWord then decoderIdle s
      else decoderDiscard (refuseFraming h s)

/-- A word in DISCARD (R24). -/
def discardWord (w : Word) (s : State) : State :=
  if s.decoder.esc then
    if w = somWord then decoderStart s else s.withDecoder { s.decoder with esc := false }
  else if w = escWord then s.withDecoder { s.decoder with esc := true }
  else s

/-- One control word into the decoder (R22 to R24). -/
def controlWord (w : Word) (s : State) : State :=
  match s.decoder.state with
  | .outside => if s.decoder.esc then outsidePair w s else outsideWord w s
  | .inMessage => if s.decoder.esc then messagePair w s else messageWord w s
  | .discard => discardWord w s

/-- The lost-word signal (R25). -/
def lostWord (s : State) : State :=
  s.withDecoder { s.decoder with
    esc := false, wordLost := s.decoder.wordLost || s.decoder.state == .inMessage }

end Sys2Proof.Machine
end

