-- ==== Sys2Proof/Machine/ReturnLink.lean ====
section
/-! DEFINITION. The return link: the unit status word, the return frame, return-in, the tracker and the hold buffer,
the coding of reports and the return transmitter (sections 2.1, 2.5, 2.6). -/

namespace Sys2Proof.Machine

/-! ## The status word (R33) -/

/-- The code of an announcement state (R33). -/
def announceCode : Option EntryState → Nat
  | none => 0
  | some .waiting => 0
  | some .cued => 1
  | some .playing => 2
  | some .trailing => 3

/-- The unit status word (R33). -/
def statusWord (s : State) : Word :=
  word (healthCode s.dog.health + lockCode s.trunk.rx.lock * 2 + sessionCode s.route.session * 8
    + announceCode (announceState s) * 32 + bitNat (attention s.notices) * 128
    + bitNat (!s.reports.queue.isEmpty) * 256 + positionCode s.route.status * 512
    + bandCode s.cues.ambient.confirmed * 4096)

/-- The own unit's position among the four status words. -/
def ownPlace (s : State) : Fin 4 := s.pins.unit.toFin

/-- W1 to W4 of a return frame: the held status words, the own one in its place (R34). -/
def sentStatus (s : State) : Vector Word 4 := setAt s.ret.status (ownPlace s) (statusWord s)

/-- W5 of a return frame: the held mask's bits 3–0 with the own bit at the own attention (R32, R34). -/
def sentAttention (s : State) : Word :=
  let own : Word := BitVec.twoPow 16 s.pins.unit.toNat
  (s.ret.attention &&& 0x000F#16 &&& ~~~own) ||| (if attention s.notices then own else 0)

/-! ## Coded reports (R20, R30) -/

/-- A data word on the wire: 0x0000 and 0x1B1B stand behind an ESC (R20). -/
def codeWord (w : Word) : List Word := if w = fillWord ∨ w = escWord then [escWord, w] else [w]

/-- The header of a report (R21, R30). -/
def reportHeader (unit : BitVec 2) (r : Report) : Word := headerWord (unit.setWidth 3) r.kind r.tag 0

/-- A report as it goes out on the reply slot (R20, R30). -/
def codeReport (unit : BitVec 2) (r : Report) : List Word :=
  [escWord, somWord] ++ (reportHeader unit r :: r.payload).flatMap codeWord ++ [escWord, eomWord]

/-! ## The hold buffer (R35) -/

/-- The words the hold buffer holds (R35). -/
def holdCount (h : List HeldMessage) : Nat := (h.map fun m => m.words.length).sum

/-- The state with another tracker state, escape-pending flag and hold buffer. -/
def setTrack (t : TrackState) (esc : Bool) (hold : List HeldMessage) (s : State) : State :=
  s.withRet { s.ret with track := t, esc := esc, hold := hold }

/-- A SOM pair in OUTSIDE or SKIP (R35). -/
def openHeld (s : State) : State :=
  if holdCount s.ret.hold + 2 ≤ Config.holdDepth then
    setTrack .inMessage false (s.ret.hold ++ [⟨[escWord, somWord], false, false⟩]) s
  else setCause .returnHoldOverflow (setTrack .skip false s.ret.hold s)

/-- A truncated message: without an ESC whose partner was not stored, its end seen, marked (R35). -/
def truncated (unpaired : Bool) (m : HeldMessage) : HeldMessage :=
  ⟨if unpaired then m.words.dropLast else m.words, true, true⟩

/-- The message in progress is truncated and the tracker enters SKIP (R35). -/
def truncateHeld (esc : Bool) (s : State) : State :=
  setTrack .skip esc (modifyLast (truncated s.ret.esc) s.ret.hold) s

/-- A word joins the message in progress. -/
def appendHeld (w : Word) (hold : List HeldMessage) : List HeldMessage :=
  modifyLast (fun m => { m with words := m.words ++ [w] }) hold

/-- The message in progress has ended (R35). -/
def closeHeld (hold : List HeldMessage) : List HeldMessage := modifyLast (fun m => { m with closed := true }) hold

/-- The message in progress ends before its last word, the ESC of the SOM pair that starts the next (R35). -/
def nextHeld (hold : List HeldMessage) : List HeldMessage :=
  modifyLast (fun m => { m with words := m.words.dropLast, closed := true }) hold
    ++ [⟨[escWord, somWord], false, false⟩]

/-- A word in IN that no ESC precedes (R35). -/
def inWord (w : Word) (s : State) : State :=
  if w = fillWord then s
  else if holdCount s.ret.hold < Config.holdDepth then
    setTrack .inMessage (w == escWord) (appendHeld w s.ret.hold) s
  else setCause .returnHoldOverflow (truncateHeld (w == escWord) s)

/-- The hold buffer with the second word of a pair in IN stored (R35). -/
def pairedHold (w : Word) (hold : List HeldMessage) : List HeldMessage :=
  if w = somWord then nextHeld hold
  else if w = eomWord ∨ w = abtWord then closeHeld (appendHeld w hold)
  else appendHeld w hold

/-- The second word of a pair in IN (R35). -/
def inPair (w : Word) (s : State) : State :=
  if holdCount (pairedHold w s.ret.hold) ≤ Config.holdDepth then
    setTrack (if w = eomWord ∨ w = abtWord then .outside else .inMessage) false (pairedHold w s.ret.hold) s
  else setCause .returnHoldOverflow (truncateHeld false s)

/-- A reply-slot word of a good return-in frame into the tracker (R35). -/
def trackWord (w : Word) (s : State) : State :=
  match s.ret.track with
  | .outside =>
    if s.ret.esc then
      if w = somWord then openHeld s else setTrack .outside false s.ret.hold s
    else setTrack .outside (w == escWord) s.ret.hold s
  | .inMessage => if s.ret.esc then inPair w s else inWord w s
  | .skip =>
    if s.ret.esc then
      if w = somWord then openHeld s
      else if w = eomWord ∨ w = abtWord then setTrack .outside false s.ret.hold s
      else setTrack .skip false s.ret.hold s
    else setTrack .skip (w == escWord) s.ret.hold s

/-- A reply-slot word was lost, or return-in entered HUNT (R35). -/
def trackLost (s : State) : State :=
  match s.ret.track with
  | .outside => setTrack .outside false s.ret.hold s
  | .inMessage => truncateHeld false s
  | .skip => setTrack .skip false s.ret.hold s

/-! ## Return-in (R34) -/

/-- The status words held after a good return-in frame: every position but the own (R34). -/
def heldStatus (own : Fin 4) (words : List Word) (held : Vector Word 4) : Vector Word 4 :=
  Vector.ofFn fun i => if i = own then held[i] else words.getD (i.val + 1) 0

/-- A good return-in frame (R34). -/
def takeReturnFrame (words : List Word) (s : State) : State :=
  trackWord (words.getD 6 0) (s.withRet { s.ret with
    status := heldStatus (ownPlace s) words s.ret.status, attention := words.getD 5 0 })

/-- What a word's place in the return-in frame brings about (R34, R35). -/
def returnEvent (e : LockEvent) (s : State) : State :=
  match e with
  | .quiet => s
  | .hunting => trackLost s
  | .frame words inLocked => if goodFrame words inLocked then takeReturnFrame words s else trackLost s

/-- The return-in receiver takes a word (R34). -/
def returnReceive (w : Word) (s : State) : State :=
  let r := lockStep 8 s.ret.rx w
  returnEvent r.2 (s.withRet { s.ret with rx := r.1 })

/-- The word goes to the return output while that passes return-in through (R193). -/
def passWord (w : Word) (s : State) : State :=
  if s.pins.passThrough then s.withOut { s.out with returnOut := [w] } else s

/-- A return-in word (R34, R193). -/
def returnInWord (w : Word) (s : State) : State := running (returnReceive w) (passWord w s)

/-! ## The return transmitter (R36) -/

/-- The state with another transmitter state. -/
def setTx (m : TxMode) (t : Turn) (s : State) : State := s.withTx ⟨m, t⟩

/-- The state with another hold buffer. -/
def setHold (h : List HeldMessage) (s : State) : State := s.withRet { s.ret with hold := h }

/-- The front message after a word of it was sent, `rest` its words still held: it ends when its end has been seen
and nothing is left to send of it (R36). -/
def afterForward (m : HeldMessage) (rest : List Word) (others : List HeldMessage) (sentEsc : Bool) (s : State) :
    State :=
  if rest.isEmpty && m.closed && !m.truncated then setTx .idle .localNext (setHold others s)
  else setTx (.forward sentEsc) .none (setHold ({ m with words := rest } :: others) s)

/-- The front report, taken from the queue, begins (R31, R36). -/
def beginLocal (r : Report) (rest : List Report) (s : State) : Word × State :=
  (escWord, setTx (.sending (codeReport s.pins.unit r).tail) .none (s.withReports { s.reports with queue := rest }))

/-- The next word of the front message of the hold buffer; FILL while none may be taken (R36). -/
def forwardWord (m : HeldMessage) (others : List HeldMessage) (afterEsc : Bool) (s : State) : Word × State :=
  match m.words with
  | [] =>
    if m.truncated then (escWord, setTx .abandon .none (setHold others s))
    else (fillWord, setTx (.forward false) .none s)
  | w :: rest =>
    if !afterEsc && w == escWord then
      if rest.isEmpty then (fillWord, setTx (.forward false) .none s)
      else (w, afterForward m rest others true s)
    else (w, afterForward m rest others false s)

/-- The choice of IDLE at a reply slot (R36). -/
def chooseWord (s : State) : Word × State :=
  match s.reports.queue, s.ret.hold with
  | [], [] => (fillWord, s)
  | r :: q, [] => beginLocal r q s
  | [], m :: ms => forwardWord m ms false s
  | r :: q, m :: ms => if s.tx.turn = .localNext then beginLocal r q s else forwardWord m ms false s

/-- FORWARD at a reply slot; a message whose end was seen after its last word was sent ends here, and IDLE chooses in
the same slot (R36, notes/assumptions/18.md). -/
def forwardSlot (afterEsc : Bool) (s : State) : Word × State :=
  match s.ret.hold with
  | [] => chooseWord (setTx .idle .localNext s)
  | m :: ms =>
    if m.words.isEmpty && m.closed && !m.truncated then chooseWord (setTx .idle .localNext (setHold ms s))
    else forwardWord m ms afterEsc s

/-- The reply-slot word of a return frame, and the state after it (R36). -/
def replySlot (s : State) : Word × State :=
  match s.tx.mode with
  | .idle => chooseWord s
  | .sending [] => chooseWord (setTx .idle .downstreamNext s)
  | .sending [w] => (w, setTx .idle .downstreamNext s)
  | .sending (w :: v :: ws) => (w, setTx (.sending (v :: ws)) .none s)
  | .forward afterEsc => forwardSlot afterEsc s
  | .abandon => (abtWord, setTx .idle .localNext s)

/-! ## The return frame (R32) -/

/-- A return frame: sync, status words, attention mask, reply slot, check word (R32). -/
def returnFrame (status : Vector Word 4) (attention slot : Word) : List Word :=
  let body := status.toList ++ [attention, slot]
  syncWord :: body ++ [checkWord body]

/-- The return frame of an output frame is sent; the return output has left pass-through (R32, R193). The status word is
formed before the reply slot takes its report from the queue, so the frame that carries the first word of the only waiting
report still shows reports pending: DESIGN CHOICE (notes/assumptions/28.md). -/
def sendReturnFrame (s : State) : State :=
  let r := replySlot s
  (r.2.withOut { r.2.out with returnOut := returnFrame (sentStatus s) (sentAttention s) r.1 }).withPins
    { r.2.pins with passThrough := false }

end Sys2Proof.Machine
end

