-- ==== Sys2Proof/Machine/SeatLines.lean ====
section
/-! DEFINITION. The seat line controllers: seat frames and poll words, reply windows, box reach and jack
classification (chapter 4). -/

namespace Sys2Proof.Machine

/-! ## Box reach (R63, R64) -/

/-- A box after a valid reply (R63, R64). -/
def boxValid (b : BoxState) : BoxState :=
  let good := satInc 255 b.goodRun
  match b.reach with
  | .unknown => ⟨.reachable, 0, good⟩
  | .reachable => ⟨.reachable, 0, good⟩
  | .lost => ⟨if good = Config.goodLimit then .reachable else .lost, 0, good⟩

/-- A box after a missed poll (R63, R64). -/
def boxMissed (b : BoxState) : BoxState :=
  let miss := satInc 255 b.missRun
  match b.reach with
  | .unknown => ⟨.unknown, miss, 0⟩
  | .reachable => ⟨if miss = Config.missLimit then .lost else .reachable, miss, 0⟩
  | .lost => ⟨.lost, miss, 0⟩

/-- Whether a valid reply regains a LOST box (R64). -/
def regains (b : BoxState) : Bool := b.reach == .lost && (boxValid b).reach == .reachable

/-- Whether a missed poll loses a REACHABLE box (R64). -/
def loses (b : BoxState) : Bool := b.reach == .reachable && (boxMissed b).reach == .lost

/-! ## Jack classification (R65 to R67) -/

/-- The class of a reading (R65). -/
def readingClass (openT shortT r : Nat) : JackClass :=
  if openT ≤ r then .unplugged else if r < shortT then .short else .headset

/-- A seat's candidate and run after a reading of class `c` (R66); the reading becomes the last sense level (R65). -/
def takeCandidate (change : Bool) (c : JackClass) (r : Nat) (j : SeatJack) : SeatJack :=
  if change || j.candidate != some c then { j with candidate := some c, run := 1, level := r }
  else { j with run := satInc 255 j.run, level := r }

/-- Whether a seat's candidate is to become its confirmed class (R67). -/
def confirms (debounce : Nat) (j : SeatJack) : Bool := decide (debounce ≤ j.run) && j.candidate != j.confirmed

/-- A seat after a confirmation, where one is due (R67). -/
def confirmClass (debounce : Nat) (j : SeatJack) : SeatJack :=
  if confirms debounce j then { j with confirmed := j.candidate } else j

/-- A seat after a reading on a line (R65 to R67). -/
def takeReading (l : SeatLine) (change : Bool) (r : Nat) (j : SeatJack) : SeatJack :=
  confirmClass l.debounce (takeCandidate change (readingClass l.openThreshold l.shortThreshold r) r j)

/-- Whether the confirmed class has become SHORT (R67). -/
def becomesShort (before after : SeatJack) : Bool := before.confirmed != some .short && after.confirmed == some .short

/-! ## Replies (R60, R61) -/

/-- The place of a box's side among the sixteen seats of its line (R56). -/
def sidePlace (box : Fin 8) (right : Bool) : Fin 16 := Fin.ofNat 16 (box.val * 2 + bitNat right)

/-- The JACK_CHANGE bit of a side (R60). -/
def jackChange (keys : Word) (right : Bool) : Bool := keys.getLsbD (6 * bitNat right + 5)

/-- The sense level of a side (R60). -/
def senseLevel (sense : Word) (right : Bool) : Nat := sense.toNat / 2 ^ (8 * bitNat right) % 256

/-- A reply is valid: four words, sync first, the sum of the others 0 (R60, R61). -/
def validReply (words : List Word) : Bool :=
  words.length == 4 && words.headD 0 == syncWord && sumWords words.tail == 0

/-- The state with a seat line replaced. -/
def setLine (i : Fin 4) (l : SeatLine) (s : State) : State := s.withLines (setAt s.lines i l)

/-- A side's seat on a line after the reading of a valid reply (R65 to R67). -/
def readSide (box : Fin 8) (keys sense : Word) (l : SeatLine) (right : Bool) : SeatLine :=
  let k := sidePlace box right
  { l with jacks := setAt l.jacks k (takeReading l (jackChange keys right) (senseLevel sense right) l.jacks[k]) }

/-- A line after a valid reply of a box: reach, readings and the judged mark (R62). -/
def lineValid (box : Fin 8) (words : List Word) (l : SeatLine) : SeatLine :=
  let keys := words.getD 1 0
  let sense := words.getD 2 0
  let l1 := { l with
    poll := some ⟨box, words, true⟩, boxes := setAt l.boxes box (boxValid l.boxes[box]) }
  readSide box keys sense (readSide box keys sense l1 false) true

/-- Whether a side's seat has just been confirmed SHORT. -/
def shorted (box : Fin 8) (right : Bool) (before after : SeatLine) : Bool :=
  becomesShort before.jacks[sidePlace box right] after.jacks[sidePlace box right]

/-- A poll judged valid: its effects on the box and its two seats (R62); the left seat's keys are delivered before the
right's (notes/assumptions/15.md). -/
def judgeValid (line : Fin 4) (box : Fin 8) (words : List Word) (s : State) : State :=
  let before := s.lines[line]
  let after := lineValid box words before
  let s1 := setCauseIf (regains before.boxes[box]) .boxRegained (setLine line after s)
  let s2 := setCauseIf (shorted box false before after || shorted box true before after) .jackFault s1
  let keys := words.getD 1 0
  deliverKeys (seatIndex line box true) (keysOf keys true)
    (deliverKeys (seatIndex line box false) (keysOf keys false) s2)

/-- A word arriving on a line's upstream pair (R61). -/
def takeReplyWord (line : Fin 4) (w : Word) (s : State) : State :=
  match s.lines[line].poll with
  | none => s
  | some p =>
    if 4 ≤ p.words.length then s
    else if validReply (p.words ++ [w]) then judgeValid line p.box (p.words ++ [w]) s
    else setLine line { s.lines[line] with poll := some { p with words := p.words ++ [w] } } s

/-! ## Reply windows closing -/

/-- The box of a poll that its window's closing judges missed (R61). -/
def missedBox (l : SeatLine) : Option (Fin 8) :=
  match l.poll with
  | none => none
  | some p => if p.judged then none else some p.box

/-- A line after its reply window has closed (R61 to R64). -/
def lineClosed (l : SeatLine) : SeatLine :=
  match missedBox l with
  | none => { l with poll := none }
  | some b => { l with poll := none, boxes := setAt l.boxes b (boxMissed l.boxes[b]) }

/-- Whether the closing of a line's window loses its box (R64). -/
def closeLoses (l : SeatLine) : Bool :=
  match missedBox l with
  | none => false
  | some b => loses l.boxes[b]

/-- The reply windows of the given lines close as the output frame begins, and the polls without a valid reply are
missed (R61, R62). -/
def closePolls (which : Vector Bool 4) (s : State) : State :=
  setCauseIf ((List.finRange 4).any fun i => which[i] && closeLoses s.lines[i]) .boxLost
    (s.withLines (Vector.ofFn fun i => if which[i] then lineClosed s.lines[i] else s.lines[i]))

/-! ## Seat frames -/

/-- The poll word of a line's seat frame (R59). -/
def pollWord (s : State) (line : Fin 4) : Word :=
  let box := s.lines[line].pollPos
  let index (right : Bool) : Nat :=
    languageIndex s.prog s.seats.records[seatIndex line box right].language
  word (box.val + index false * 8 + index true * 128 + bitNat (lampLit s) * 2048)

/-- A seat frame (R58). -/
def seatFrame (samples : List Word) (poll : Word) : List Word :=
  let body := samples ++ [poll]
  syncWord :: body ++ [checkWord body]

/-- The sample words of a line's sixteen seats (R58). -/
def lineSamples (samples : Vector Int 65) (line : Fin 4) : List Word :=
  (List.range 16).map fun k => BitVec.ofInt 16 samples[Fin.ofNat 65 (line.val * 16 + k)]

/-- What a line sends in an output frame, nothing while it is disabled (R57, R58); `start` is the state at the start of
the frame (R59). -/
def lineFrame (start : State) (samples : Vector Int 65) (line : Fin 4) : List Word :=
  if start.lines[line].enabled then seatFrame (lineSamples samples line) (pollWord start line) else []

/-- A line after its seat frame was sent: the reply window is open and the poll position advanced (R57). -/
def lineSent (l : SeatLine) : SeatLine :=
  if l.enabled then { l with poll := some ⟨l.pollPos, [], false⟩, pollPos := l.pollPos + 1 } else l

/-- The seat frames of an output frame are sent (R57). -/
def sendSeatFrames (start : State) (samples : Vector Int 65) (s : State) : State :=
  (s.withOut { s.out with seatOut := Vector.ofFn (lineFrame start samples) }).withLines (mapTable lineSent s.lines)

end Sys2Proof.Machine
end

