-- ==== Sys2Proof/Machine/Trunk.lean ====
section
/-! DEFINITION. The trunk receiver: taking good and bad frames, concealment, the elastic store's input and trunk-out
(chapter 1). -/

namespace Sys2Proof.Machine

/-! ## The words of a frame -/

/-- Word `n` of a frame, W0 first (R1). -/
def frameWord (words : List Word) (n : Nat) : Word := words.getD n 0

/-- A lane sample as it is taken: 0x8000 becomes −32767, an absent lane 0 (R6). -/
def takenSample (present : Bool) (w : Word) : Int :=
  if !present then 0 else if w = syncWord then -32767 else w.toInt

/-- The lane audio of a frame (R1, R6). -/
def laneFrameOf (words : List Word) : LaneFrame where
  mask := (frameWord words 1).setWidth 12
  samples := Vector.ofFn fun i : Fin 12 =>
    takenSample ((frameWord words 1).getLsbD i.val) (frameWord words (i.val + 2))

/-- The frame sequence (R1). -/
def sequenceOf (words : List Word) : BitVec 4 := (frameWord words 1).extractLsb' 12 4

/-- The control word W14 (R1). -/
def controlOf (words : List Word) : Word := frameWord words 14

/-! ## The store's input -/

/-- A judged frame joins the elastic store while health is OK; a full store drops its front frame first (R13). -/
def storeJoin (f : LaneFrame) (s : State) : State :=
  match s.dog.health with
  | .lost => s
  | .ok =>
    if s.store.frames.length < Config.storeDepth then
      s.withStore { s.store with frames := s.store.frames ++ [f] }
    else
      setCause .slip ((s.withStore { s.store with frames := s.store.frames.tail ++ [f] }).withCounters
        { s.counters with dropSlips := satInc 65535 s.counters.dropSlips })

/-! ## Judging -/

/-- Whether a good frame's sequence is a gap: only after a good frame, when it is not one more (R6). -/
def isGap (badRun : Nat) (prev seq : BitVec 4) : Bool := badRun == 0 && seq != prev + 1#4

/-- A gap counted (R6). -/
def countGap (gap : Bool) (s : State) : State :=
  if gap then s.withCounters { s.counters with sequenceGaps := satInc 65535 s.counters.sequenceGaps } else s

/-- A good frame is taken (R5, R6). -/
def takeGood (words : List Word) (s : State) : State :=
  let f := laneFrameOf words
  let gap := isGap s.trunk.badRun s.trunk.lastSeq (sequenceOf words)
  let s1 := s.withTrunk { s.trunk with lastGood := f, lastSeq := sequenceOf words, badRun := 0 }
  let s2 := storeJoin f (s1.withDog { s1.dog with goodInTick := true })
  countGap gap (controlWord (controlOf words) s2)

/-- The concealed frame: a copy of the last good frame, or all-absent (R8). -/
def concealed (t : TrunkRx) : LaneFrame := if t.badRun = 0 then t.lastGood else LaneFrame.absent

/-- A bad frame is taken (R5, R7, R8). -/
def takeBad (s : State) : State :=
  let s1 := s.withTrunk { s.trunk with badRun := satInc 255 s.trunk.badRun }
  let s2 := s1.withCounters { s1.counters with badFrames := satInc 65535 s1.counters.badFrames }
  storeJoin (concealed s.trunk) (lostWord (setCause .badFrames s2))

/-- What a word's place in the frame brings about (R3 to R5). -/
def trunkEvent (e : LockEvent) (s : State) : State :=
  match e with
  | .quiet => s
  | .hunting => s
  | .frame words inLocked => if goodFrame words inLocked then takeGood words s else takeBad s

/-- The receiver takes a word (R2 to R5). -/
def trunkReceive (w : Word) (s : State) : State :=
  let r := lockStep 16 s.trunk.rx w
  trunkEvent r.2 (s.withTrunk { s.trunk with rx := r.1 })

/-- The word is repeated on trunk-out, in every state and while the reset pin is held (R17, R193). -/
def repeatWord (w : Word) (s : State) : State := s.withOut { s.out with trunkOut := some w }

/-- A trunk word (R2, R17). -/
def trunkWord (w : Word) (s : State) : State := running (trunkReceive w) (repeatWord w s)

end Sys2Proof.Machine
end

