-- ==== Sys2Proof/Machine/Frame.lean ====
section
/-! DEFINITION. The output frame: the store's output, the lane meter, the ramps and the mix, what is sent, and the
announcement events that come about in it (R14 to R16, R95). The order of the parts: notes/assumptions/11.md. -/

namespace Sys2Proof.Machine

/-! ## The store's output (R14) -/

/-- The state with a store and the frame it has handed over, which becomes the last output frame. -/
def handOver (f : LaneFrame) (frames : List LaneFrame) (primed : Bool) (s : State) : LaneFrame × State :=
  (f, s.withStore ⟨frames, primed, f⟩)

/-- A repeat slip (R14). -/
def repeatSlip (s : State) : State :=
  setCause .slip (s.withCounters { s.counters with repeatSlips := satInc 65535 s.counters.repeatSlips })

/-- The frame used in this output frame, and the state after the take (R14). -/
def storeTake (s : State) : LaneFrame × State :=
  match s.dog.health, s.store.primed, s.store.frames with
  | .lost, p, fs => handOver LaneFrame.absent fs p s
  | .ok, false, f :: g :: fs => handOver f (g :: fs) true s
  | .ok, false, fs => handOver LaneFrame.absent fs false s
  | .ok, true, f :: fs => handOver f fs true s
  | .ok, true, [] => handOver s.store.last [] true (repeatSlip s)

/-! ## The lane meter (R15, R16) -/

/-- The magnitude of a lane in a frame (R15). -/
def magnitude (f : LaneFrame) (i : Fin 12) : Nat := (laneSample f i).natAbs

/-- The frame is measured (R15). -/
def meterSample (f : LaneFrame) (s : State) : State :=
  s.withMeter {
    lanes := Vector.ofFn fun i => { s.meter.lanes[i] with peak := max s.meter.lanes[i].peak (magnitude f i) }
    blockPos := s.meter.blockPos + 1 }

/-- The number of significant bits of a peak (R16). -/
def peakLevel (peak : Nat) : Nat := if peak = 0 then 0 else Nat.log2 peak + 1

/-- The lane meters at a block end: level, quiet flag, and the peak back to 0 (R16). -/
def endedLanes (p : Programme) (m : Meter) : Vector LaneMeter 12 :=
  Vector.ofFn fun i =>
    ⟨0, peakLevel m.lanes[i].peak, decide (peakLevel m.lanes[i].peak ≤ p.lanes[i].silence)⟩

/-- The block ends when the position has reached 256, and the plan lanes' quiet flags are examined (R15, R16, R146). -/
def meterBlock (s : State) : State :=
  if s.meter.blockPos < Config.meterBlock then s
  else silenceCheck (s.withMeter ⟨endedLanes s.prog s.meter, 0⟩)

/-! ## The chime in a frame (R156) -/

/-- The chime generator advances by one frame. -/
def chimeStep (s : State) : State := s.withAnn { s.ann with chime := chimeAdvance s.ann.chime }

/-- Whether this frame is the last of the chime. -/
def chimeEnds (s : State) : Bool := s.ann.chime.isSome && (chimeAdvance s.ann.chime).isNone

/-- What the chime's end brings about, where it ended in this frame (R143, R144). -/
def chimeEvent (ended : Bool) (s : State) : State := if ended then chimeEnded s else s

/-! ## TRAILING (R152) -/

/-- The active entry leaves TRAILING when the duck gain stands at 32767 after its step (R152). -/
def trailingEvent (s : State) : State :=
  if announceState s = some .trailing ∧ s.mixer.duck = Config.fullGain then leaveTrailing s else s

/-! ## The frame (R95) -/

/-- The return frame is sent, where the order puts it here (R32). -/
def sendReturnIf (b : Bool) (s : State) : State := if b then sendReturnFrame s else s

/-- The PA sample of the frame, the same word in both channel slots (R101). -/
def sendPa (x : Int) (s : State) : State := s.withOut { s.out with paOut := PaFrame.both (BitVec.ofInt 16 x) }

/-- The frame's preparation: the meter, the crossfades and the ramps have taken their steps (R85, R95). -/
def prepared (f : LaneFrame) (s : State) : State := rampStep (crossfadeStep (meterSample f s))

/-- The frame mixed and sent on the seat lines and the PA output, the reply windows that the order puts after the mix
closing between; `start` is the state at its start, `s` the prepared one (R58, R69, R101). -/
def sendFrame (o : FrameOrder) (start : State) (f : LaneFrame) (s : State) : State :=
  let samples := mix s f (chimeSample s.ann.chime)
  sendPa samples[paIndex] (sendSeatFrames start samples (closePolls (mapTable (!·) o.pollsFirst) (chimeStep s)))

/-- The events of the frame: TRAILING ends, the meter block ends, the chime ends (R144, R146, R152). -/
def frameEvents (chimeEnded : Bool) (s : State) : State := chimeEvent chimeEnded (meterBlock (trailingEvent s))

/-- The output frame while the part runs (R95). -/
def runFrame (o : FrameOrder) (start : State) : State :=
  let take := storeTake (closePolls o.pollsFirst start)
  let s := prepared take.1 take.2
  let sent := sendReturnIf o.returnFirst (sendFrame o start take.1 s)
  sendReturnIf (!o.returnFirst) (frameEvents (chimeEnds s) sent)

/-- The output frame; while the part is held the PA output sends 0 and nothing else happens (R95, R193). -/
def outputFrame (o : FrameOrder) (s : State) : State := if s.pins.held then sendPa 0 s else runFrame o s

end Sys2Proof.Machine
end

