-- ==== Sys2Proof/Machine/Events.lean ====
section
/-! DEFINITION. The commands that are pins and events: power-on and the reset pin, words arriving, ticks, output
frames, and the rows of the table that name what comes about inside one of these (notes/assumptions/1.md). -/

namespace Sys2Proof.Machine

/-- The outcome of every command: the manual gives each an effect in every state. -/
abbrev Answer := Host.Outcome State Fault Refusal

/-! ## Pins (R192, R193) -/

/-- The outputs while the part is held (R193). -/
def heldOutputs (o : Outputs) : Outputs :=
  { Outputs.initial with trunkOut := o.trunkOut, returnOut := o.returnOut }

/-- Power is applied and the power-on values do not stand yet: the straps are sampled, and trunk-out and the return
output repeat what arrives (R192, R193). -/
def powerApplied (straps : Straps) (s : State) : State :=
  (s.withPins { Pins.sampled straps true with phase := .powering }).withOut Outputs.initial

/-- The power-on values stand: with the straps sampled at the application of power where words have been repeated since,
with these straps where power is applied at this moment (R192, R193). -/
def powerStands (straps : Straps) (s : State) : State :=
  if s.pins.phase = .powering then
    State.powerOn s.pending { s.pins with phase := .running, passThrough := false } (heldOutputs s.out)
  else State.powerOn s.pending (Pins.sampled straps false) Outputs.initial

/-- POWER_ON (R192, R193). -/
def execPowerOn (power : PowerUp) (s : State) : Answer :=
  .next (if power.stand then powerStands power.straps s else powerApplied power.straps s)

/-- RESET_ASSERT: the reset pin is held (R193). -/
def execResetAssert (s : State) : Answer :=
  .next ((s.withPins { s.pins with phase := .reset, passThrough := true }).withOut (heldOutputs s.out))

/-- RESET_RELEASE: power-on values, the straps sampled; return-in passes through until the next output frame (R192,
R193). -/
def execResetRelease (straps : Straps) (s : State) : Answer :=
  .next (State.powerOn s.pending (Pins.sampled straps true) (heldOutputs s.out))

/-! ## Events of the table's own steps -/

/-- The local tick while the part runs (R9, R193). -/
def tickEvent (watchdogFirst : Bool) (s : State) : State := running (localTick watchdogFirst) s

/-- A seat reply word while the part runs (R61, R193). -/
def replyEvent (line : Fin 4) (w : Word) (s : State) : State := running (takeReplyWord line w) s

/-- The light tick while the part runs (R172, R193). -/
def lightEvent (s : State) : State := running lightTick s

/-- The route tick while the part runs (R117, R193). -/
def routeEvent (s : State) : State := running routeTick s

/-- An ambient sample while the part runs (R180, R193). -/
def ambientEvent (x : BitVec 8) (s : State) : State := running (ambientSample x.toNat) s

/-- TRUNK_WORD (R2). -/
def execTrunkWord (w : Word) (s : State) : Answer := .next (trunkWord w s)

/-- LOCAL_TICK (R9). -/
def execLocalTick (watchdogFirst : Bool) (s : State) : Answer := .next (tickEvent watchdogFirst s)

/-- OUTPUT_FRAME (R95). -/
def execOutputFrame (o : FrameOrder) (s : State) : Answer := .next (outputFrame o s)

/-- SEAT_REPLY_WORD (R61). -/
def execSeatReplyWord (line : Fin 4) (w : Word) (s : State) : Answer := .next (replyEvent line w s)

/-- RETURN_IN_WORD (R34). -/
def execReturnInWord (w : Word) (s : State) : Answer := .next (returnInWord w s)

/-- LIGHT_TICK (R172). -/
def execLightTick (s : State) : Answer := .next (lightEvent s)

/-- ROUTE_TICK (R117). -/
def execRouteTick (s : State) : Answer := .next (routeEvent s)

/-- ANNOUNCE_CUE (R141). -/
def execAnnounceCue (s : State) : Answer := .next (running tryCue s)

/-- AMBIENT_SAMPLE (R180). -/
def execAmbientSample (x : BitVec 8) (s : State) : Answer := .next (ambientEvent x s)

/-! ## Rows that name what comes about inside another step -/

/-- A step taken where the thing the row names comes about in it; otherwise, and while the part is held, the row names
nothing that happens and changes nothing (notes/assumptions/1.md, 7.md). -/
def occurrence (due : Bool) (step : State → State) (s : State) : Answer :=
  if due && !s.pins.held then .next (step s) else .next s

/-- Health goes from `h` to the other state in a step (R11, R12). -/
def healthLeaves (h : Health) (s s' : State) : Bool := s.dog.health == h && s'.dog.health != h

/-- The active entry goes to TRAILING from state `from_` with a reason in a step (R146, R147). -/
def endsWith (from_ : EntryState) (r : Reason) (s s' : State) : Bool :=
  announceState s == some from_ && announceState s' == some .trailing
    && ((activeEntry s').map (·.reason)) == some (some r)

/-- HEALTH_LOST (R11). -/
def execHealthLost (watchdogFirst : Bool) (s : State) : Answer :=
  occurrence (healthLeaves .ok s (tickEvent watchdogFirst s)) (tickEvent watchdogFirst) s

/-- HEALTH_RESTORED (R12). -/
def execHealthRestored (watchdogFirst : Bool) (s : State) : Answer :=
  occurrence (healthLeaves .lost s (tickEvent watchdogFirst s)) (tickEvent watchdogFirst) s

/-- The meter block ends in the next output frame (R15). -/
def blockEnds (s : State) : Bool := decide (Config.meterBlock ≤ s.meter.blockPos + 1)

/-- METER_BLOCK_END (R16). -/
def execMeterBlockEnd (o : FrameOrder) (s : State) : Answer := occurrence (blockEnds s) (outputFrame o) s

/-- SILENCE_END (R146). -/
def execSilenceEnd (o : FrameOrder) (s : State) : Answer :=
  occurrence (endsWith .playing .silence s (outputFrame o s)) (outputFrame o) s

/-- A record's fade switches lanes in a step (R84). -/
def switches (i : Fin 65) (s s' : State) : Bool :=
  s.seats.records[i].phase == .fadeOut && s'.seats.records[i].phase == .fadeIn && s'.seats.records[i].fade == 0

/-- FADE_SWITCH (R84). -/
def execFadeSwitch (i : Fin 65) (o : FrameOrder) (s : State) : Answer :=
  occurrence (switches i s (outputFrame o s)) (outputFrame o) s

/-- A record's fade-in is complete in a step (R84). -/
def fadesIn (i : Fin 65) (s s' : State) : Bool :=
  s.seats.records[i].phase == .fadeIn && s'.seats.records[i].phase == .steady

/-- FADE_IN_COMPLETE (R84). -/
def execFadeInComplete (i : Fin 65) (o : FrameOrder) (s : State) : Answer :=
  occurrence (fadesIn i s (outputFrame o s)) (outputFrame o) s

/-- Some seat of a line changes its confirmed class in a step (R67). -/
def jackConfirms (line : Fin 4) (s s' : State) : Bool :=
  (List.finRange 16).any fun k => s'.lines[line].jacks[k].confirmed != s.lines[line].jacks[k].confirmed

/-- JACK_CONFIRMED (R67). -/
def execJackConfirmed (line : Fin 4) (w : Word) (s : State) : Answer :=
  occurrence (jackConfirms line s (replyEvent line w s)) (replyEvent line w) s

/-- Some box of a line goes from one reach state to another in a step (R64). -/
def reachMoves (line : Fin 4) (a b : Reach) (s s' : State) : Bool :=
  (List.finRange 8).any fun k => s.lines[line].boxes[k].reach == a && s'.lines[line].boxes[k].reach == b

/-- BOX_LOST (R64). -/
def execBoxLost (line : Fin 4) (o : FrameOrder) (s : State) : Answer :=
  occurrence (reachMoves line .reachable .lost s (outputFrame o s)) (outputFrame o) s

/-- BOX_REGAINED (R64). -/
def execBoxRegained (line : Fin 4) (w : Word) (s : State) : Answer :=
  occurrence (reachMoves line .lost .reachable s (replyEvent line w s)) (replyEvent line w) s

/-- A record's call holdoff is at its last millisecond (R82). -/
def holdoffLast (i : Fin 65) (s : State) : Bool := s.seats.records[i].holdoff == 1

/-- CALL_HOLDOFF_EXPIRY (R82). -/
def execCallHoldoffExpiry (i : Fin 65) (watchdogFirst : Bool) (s : State) : Answer :=
  occurrence (holdoffLast i s) (tickEvent watchdogFirst) s

/-- A zone's overlay ends in a step (R171). -/
def overlayEnds (z : Fin 16) (s s' : State) : Bool :=
  s.lights.zones[z].overlay.isSome && s'.lights.zones[z].overlay.isNone

/-- OVERLAY_END (R171). -/
def execOverlayEnd (z : Fin 16) (s : State) : Answer :=
  occurrence (overlayEnds z s (lightEvent s)) lightEvent s

/-- The position status becomes STALE in a step (R118). -/
def becomesStale (s s' : State) : Bool := s.route.status != .stale && s'.route.status == .stale

/-- POSITION_STALE (R118). -/
def execPositionStale (s : State) : Answer := occurrence (becomesStale s (routeEvent s)) routeEvent s

/-- The front entry's not-before time is reached at the next local tick (R140). -/
def reachesNotBefore (s : State) : Bool :=
  match s.ann.queue with
  | [] => false
  | e :: _ => !mayGo s.now e && mayGo (s.now + 1) e

/-- NOT_BEFORE_REACHED (R140). -/
def execNotBeforeReached (watchdogFirst : Bool) (s : State) : Answer :=
  occurrence (reachesNotBefore s) (tickEvent watchdogFirst) s

/-- The chime's note ends in the next output frame, with a note after it (R156). -/
def noteEnds (s : State) : Bool :=
  match s.ann.chime, chimeAdvance s.ann.chime with
  | some c, some c' => c'.note != c.note
  | _, _ => false

/-- CHIME_NOTE_END (R156). -/
def execChimeNoteEnd (o : FrameOrder) (s : State) : Answer := occurrence (noteEnds s) (outputFrame o) s

/-- CHIME_END (R156). -/
def execChimeEnd (o : FrameOrder) (s : State) : Answer := occurrence (chimeEnds s) (outputFrame o) s

/-- CUE_TIMEOUT (R147). -/
def execCueTimeout (watchdogFirst : Bool) (s : State) : Answer :=
  occurrence (endsWith .cued .timeout s (tickEvent watchdogFirst s)) (tickEvent watchdogFirst) s

/-- MAX_PLAY_TIME (R147). -/
def execMaxPlayTime (watchdogFirst : Bool) (s : State) : Answer :=
  occurrence (endsWith .playing .maxTime s (tickEvent watchdogFirst s)) (tickEvent watchdogFirst) s

/-- The TRAILING entry leaves in the next output frame: the duck step brings the gain to 32767 (R152). -/
def trailingEnds (s : State) : Bool :=
  announceState s == some .trailing && duckStep s == Config.fullGain

/-- TRAILING_END (R152). -/
def execTrailingEnd (o : FrameOrder) (s : State) : Answer := occurrence (trailingEnds s) (outputFrame o) s

/-- A band is confirmed in a step (R182). -/
def bandConfirms (s s' : State) : Bool :=
  s'.cues.ambient.confirmed.isSome && s'.cues.ambient.confirmed != s.cues.ambient.confirmed

/-- BAND_CONFIRMED (R182). -/
def execBandConfirmed (x : BitVec 8) (s : State) : Answer :=
  occurrence (bandConfirms s (ambientEvent x s)) (ambientEvent x) s

/-- The sensor is judged INVALID in a step (R182). -/
def sensorFails (s s' : State) : Bool :=
  s.cues.ambient.invalidRun + 1 == Config.invalidLimit && s'.cues.ambient.invalidRun == Config.invalidLimit

/-- SENSOR_JUDGED_INVALID (R182). -/
def execSensorJudgedInvalid (x : BitVec 8) (s : State) : Answer :=
  occurrence (sensorFails s (ambientEvent x s)) (ambientEvent x) s

end Sys2Proof.Machine
end

