-- ==== Sys2Proof/Machine/Messages.lean ====
section
/-! DEFINITION. The commands that are control messages, each received whole at its EOM (R26, notes/assumptions/3.md):
the kind and the payload words that the row's name fixes, and `receive`. -/

namespace Sys2Proof.Machine

/-- A message of a kind received while the part runs (R193). -/
def message (k : MsgKind) (h : MsgHead) (p : List Word) (s : State) : Answer :=
  .next (running (receive h (kindCode k) p) s)

/-- UNKNOWN_MESSAGE (R26); a kind that is a control message's is not this row's and changes nothing
(notes/assumptions/3.md). -/
def execUnknownMessage (h : MsgHead) (code : BitVec 6) (p : List Word) (s : State) : Answer :=
  .next (if (kindOf code).isSome then s else running (receive h code p) s)

/-- SET_LANE (R51). -/
def execSetLane (h : MsgHead) (p : List Word) (s : State) : Answer := message .setLane h p s

/-- SET_CAROUSEL (R53). -/
def execSetCarousel (h : MsgHead) (p : List Word) (s : State) : Answer := message .setCarousel h p s

/-- READ_LANES (R55). -/
def execReadLanes (h : MsgHead) (p : List Word) (s : State) : Answer := message .readLanes h p s

/-- SET_SEAT_LINE (R70). -/
def execSetSeatLine (h : MsgHead) (p : List Word) (s : State) : Answer := message .setSeatLine h p s

/-- READ_LINE (R73). -/
def execReadLine (h : MsgHead) (p : List Word) (s : State) : Answer := message .readLine h p s

/-- SET_SEAT (R88). -/
def execSetSeat (h : MsgHead) (p : List Word) (s : State) : Answer := message .setSeat h p s

/-- SET_SEAT_RANGE (R90). -/
def execSetSeatRange (h : MsgHead) (p : List Word) (s : State) : Answer := message .setSeatRange h p s

/-- READ_SEAT (R92). -/
def execReadSeat (h : MsgHead) (p : List Word) (s : State) : Answer := message .readSeat h p s

/-- SET_AUDIO (R107). -/
def execSetAudio (h : MsgHead) (p : List Word) (s : State) : Answer := message .setAudio h p s

/-- SET_ROUTE (R111). -/
def execSetRoute (h : MsgHead) (p : List Word) (s : State) : Answer := message .setRoute h p s

/-- WRITE_STOPS (R121). -/
def execWriteStops (h : MsgHead) (p : List Word) (s : State) : Answer := message .writeStops h p s

/-- READ_STOPS (R123). -/
def execReadStops (h : MsgHead) (p : List Word) (s : State) : Answer := message .readStops h p s

/-- The payload of a Position whose third word has the valid flag `valid` and bits 14–0 `w3` (R114). -/
def positionPayload (valid : Bool) (w1 w2 : Word) (w3 : BitVec 15) (rest : List Word) : List Word :=
  w1 :: w2 :: (BitVec.ofBool valid ++ w3) :: rest

/-- POSITION_FIX (R114, R116). -/
def execPositionFix (h : MsgHead) (w1 w2 : Word) (w3 : BitVec 15) (rest : List Word) (s : State) : Answer :=
  message .position h (positionPayload true w1 w2 w3 rest) s

/-- POSITION_INVALID (R115). -/
def execPositionInvalid (h : MsgHead) (w1 w2 : Word) (w3 : BitVec 15) (rest : List Word) (s : State) : Answer :=
  message .position h (positionPayload false w1 w2 w3 rest) s

/-- TOUR_START (R132). -/
def execTourStart (h : MsgHead) (rest : List Word) (s : State) : Answer := message .tour h (0#16 :: rest) s

/-- TOUR_PAUSE (R133). -/
def execTourPause (h : MsgHead) (rest : List Word) (s : State) : Answer := message .tour h (1#16 :: rest) s

/-- TOUR_RESUME (R133). -/
def execTourResume (h : MsgHead) (rest : List Word) (s : State) : Answer := message .tour h (2#16 :: rest) s

/-- TOUR_END (R134). -/
def execTourEnd (h : MsgHead) (rest : List Word) (s : State) : Answer := message .tour h (3#16 :: rest) s

/-- ANNOUNCE (R159). -/
def execAnnounce (h : MsgHead) (p : List Word) (s : State) : Answer := message .announce h p s

/-- CLIP_START (R144). -/
def execClipStart (h : MsgHead) (p : List Word) (s : State) : Answer := message .clipStart h p s

/-- CLIP_END (R145). -/
def execClipEnd (h : MsgHead) (p : List Word) (s : State) : Answer := message .clipEnd h p s

/-- CANCEL_TICKET (R151). -/
def execCancelTicket (h : MsgHead) (rest : List Word) (s : State) : Answer := message .cancel h (0#16 :: rest) s

/-- CANCEL_ENTRY (R151). -/
def execCancelEntry (h : MsgHead) (rest : List Word) (s : State) : Answer := message .cancel h (1#16 :: rest) s

/-- CANCEL_ALL (R151). -/
def execCancelAll (h : MsgHead) (rest : List Word) (s : State) : Answer := message .cancel h (2#16 :: rest) s

/-- SET_CHIME (R157). -/
def execSetChime (h : MsgHead) (p : List Word) (s : State) : Answer := message .setChime h p s

/-- SET_ANNOUNCE (R160). -/
def execSetAnnounce (h : MsgHead) (p : List Word) (s : State) : Answer := message .setAnnounce h p s

/-- READ_QUEUE (R161). -/
def execReadQueue (h : MsgHead) (p : List Word) (s : State) : Answer := message .readQueue h p s

/-- SET_SCENE (R174). -/
def execSetScene (h : MsgHead) (p : List Word) (s : State) : Answer := message .setScene h p s

/-- SET_PATTERN (R175). -/
def execSetPattern (h : MsgHead) (p : List Word) (s : State) : Answer := message .setPattern h p s

/-- APPLY_SCENE (R176). -/
def execApplyScene (h : MsgHead) (p : List Word) (s : State) : Answer := message .applyScene h p s

/-- SET_ZONES (R176). -/
def execSetZones (h : MsgHead) (p : List Word) (s : State) : Answer := message .setZones h p s

/-- READ_ZONES (R178). -/
def execReadZones (h : MsgHead) (p : List Word) (s : State) : Answer := message .readZones h p s

/-- SET_CUE (R188). -/
def execSetCue (h : MsgHead) (p : List Word) (s : State) : Answer := message .setCue h p s

/-- MARKER (R189). -/
def execMarker (h : MsgHead) (p : List Word) (s : State) : Answer := message .marker h p s

/-- READ_CUES (R190). -/
def execReadCues (h : MsgHead) (p : List Word) (s : State) : Answer := message .readCues h p s

/-- SET_AMBIENT (R183). -/
def execSetAmbient (h : MsgHead) (p : List Word) (s : State) : Answer := message .setAmbient h p s

/-- READ_STATUS (R39). -/
def execReadStatus (h : MsgHead) (opts : BitVec 15) (rest : List Word) (s : State) : Answer :=
  message .readStatus h ((opts ++ 0#1) :: rest) s

/-- READ_STATUS_CLEAR (R39). -/
def execReadStatusClear (h : MsgHead) (opts : BitVec 15) (rest : List Word) (s : State) : Answer :=
  message .readStatus h ((opts ++ 1#1) :: rest) s

/-- SET_NOTICES (R38). -/
def execSetNotices (h : MsgHead) (p : List Word) (s : State) : Answer := message .setNotices h p s

/-- CLEAR_NOTICES (R38). -/
def execClearNotices (h : MsgHead) (p : List Word) (s : State) : Answer := message .clearNotices h p s

/-- READ_NOTICES (R38). -/
def execReadNotices (h : MsgHead) (p : List Word) (s : State) : Answer := message .readNotices h p s

/-- SET_PROFILE (R40). -/
def execSetProfile (h : MsgHead) (p : List Word) (s : State) : Answer := message .setProfile h p s

/-- RESTART (R41). -/
def execRestart (h : MsgHead) (p : List Word) (s : State) : Answer := message .restart h p s

end Sys2Proof.Machine
end

