-- ==== Sys2Proof/Machine/Dispatch.lean ====
section
/-! DEFINITION. The meaning of every command: one arm per constructor of Instr. -/

namespace Sys2Proof.Machine

def exec (i : Instr) (s : State) : Host.Outcome State Fault Refusal :=
  match i with
  | .powerOn power => Sys2Proof.Machine.execPowerOn power s
  | .resetAssert => Sys2Proof.Machine.execResetAssert s
  | .resetRelease straps => Sys2Proof.Machine.execResetRelease straps s
  | .trunkWord w => Sys2Proof.Machine.execTrunkWord w s
  | .localTick watchdogFirst => Sys2Proof.Machine.execLocalTick watchdogFirst s
  | .healthLost watchdogFirst => Sys2Proof.Machine.execHealthLost watchdogFirst s
  | .healthRestored watchdogFirst => Sys2Proof.Machine.execHealthRestored watchdogFirst s
  | .outputFrame order => Sys2Proof.Machine.execOutputFrame order s
  | .meterBlockEnd order => Sys2Proof.Machine.execMeterBlockEnd order s
  | .silenceEnd order => Sys2Proof.Machine.execSilenceEnd order s
  | .fadeSwitch record order => Sys2Proof.Machine.execFadeSwitch record order s
  | .fadeInComplete record order => Sys2Proof.Machine.execFadeInComplete record order s
  | .seatReplyWord line w => Sys2Proof.Machine.execSeatReplyWord line w s
  | .jackConfirmed line w => Sys2Proof.Machine.execJackConfirmed line w s
  | .boxLost line order => Sys2Proof.Machine.execBoxLost line order s
  | .boxRegained line w => Sys2Proof.Machine.execBoxRegained line w s
  | .callHoldoffExpiry record watchdogFirst => Sys2Proof.Machine.execCallHoldoffExpiry record watchdogFirst s
  | .returnInWord w => Sys2Proof.Machine.execReturnInWord w s
  | .lightTick => Sys2Proof.Machine.execLightTick s
  | .overlayEnd zone => Sys2Proof.Machine.execOverlayEnd zone s
  | .routeTick => Sys2Proof.Machine.execRouteTick s
  | .positionStale => Sys2Proof.Machine.execPositionStale s
  | .announceCue => Sys2Proof.Machine.execAnnounceCue s
  | .notBeforeReached watchdogFirst => Sys2Proof.Machine.execNotBeforeReached watchdogFirst s
  | .chimeNoteEnd order => Sys2Proof.Machine.execChimeNoteEnd order s
  | .chimeEnd order => Sys2Proof.Machine.execChimeEnd order s
  | .cueTimeout watchdogFirst => Sys2Proof.Machine.execCueTimeout watchdogFirst s
  | .maxPlayTime watchdogFirst => Sys2Proof.Machine.execMaxPlayTime watchdogFirst s
  | .trailingEnd order => Sys2Proof.Machine.execTrailingEnd order s
  | .ambientSample x => Sys2Proof.Machine.execAmbientSample x s
  | .bandConfirmed x => Sys2Proof.Machine.execBandConfirmed x s
  | .sensorJudgedInvalid x => Sys2Proof.Machine.execSensorJudgedInvalid x s
  | .unknownMessage head kind payload => Sys2Proof.Machine.execUnknownMessage head kind payload s
  | .setLane head payload => Sys2Proof.Machine.execSetLane head payload s
  | .setCarousel head payload => Sys2Proof.Machine.execSetCarousel head payload s
  | .readLanes head payload => Sys2Proof.Machine.execReadLanes head payload s
  | .setSeatLine head payload => Sys2Proof.Machine.execSetSeatLine head payload s
  | .readLine head payload => Sys2Proof.Machine.execReadLine head payload s
  | .setSeat head payload => Sys2Proof.Machine.execSetSeat head payload s
  | .setSeatRange head payload => Sys2Proof.Machine.execSetSeatRange head payload s
  | .readSeat head payload => Sys2Proof.Machine.execReadSeat head payload s
  | .setAudio head payload => Sys2Proof.Machine.execSetAudio head payload s
  | .setRoute head payload => Sys2Proof.Machine.execSetRoute head payload s
  | .writeStops head payload => Sys2Proof.Machine.execWriteStops head payload s
  | .readStops head payload => Sys2Proof.Machine.execReadStops head payload s
  | .positionFix head w1 w2 w3 rest => Sys2Proof.Machine.execPositionFix head w1 w2 w3 rest s
  | .positionInvalid head w1 w2 w3 rest => Sys2Proof.Machine.execPositionInvalid head w1 w2 w3 rest s
  | .tourStart head rest => Sys2Proof.Machine.execTourStart head rest s
  | .tourPause head rest => Sys2Proof.Machine.execTourPause head rest s
  | .tourResume head rest => Sys2Proof.Machine.execTourResume head rest s
  | .tourEnd head rest => Sys2Proof.Machine.execTourEnd head rest s
  | .announce head payload => Sys2Proof.Machine.execAnnounce head payload s
  | .clipStart head payload => Sys2Proof.Machine.execClipStart head payload s
  | .clipEnd head payload => Sys2Proof.Machine.execClipEnd head payload s
  | .cancelTicket head rest => Sys2Proof.Machine.execCancelTicket head rest s
  | .cancelEntry head rest => Sys2Proof.Machine.execCancelEntry head rest s
  | .cancelAll head rest => Sys2Proof.Machine.execCancelAll head rest s
  | .setChime head payload => Sys2Proof.Machine.execSetChime head payload s
  | .setAnnounce head payload => Sys2Proof.Machine.execSetAnnounce head payload s
  | .readQueue head payload => Sys2Proof.Machine.execReadQueue head payload s
  | .setScene head payload => Sys2Proof.Machine.execSetScene head payload s
  | .setPattern head payload => Sys2Proof.Machine.execSetPattern head payload s
  | .applyScene head payload => Sys2Proof.Machine.execApplyScene head payload s
  | .setZones head payload => Sys2Proof.Machine.execSetZones head payload s
  | .readZones head payload => Sys2Proof.Machine.execReadZones head payload s
  | .setCue head payload => Sys2Proof.Machine.execSetCue head payload s
  | .marker head payload => Sys2Proof.Machine.execMarker head payload s
  | .readCues head payload => Sys2Proof.Machine.execReadCues head payload s
  | .setAmbient head payload => Sys2Proof.Machine.execSetAmbient head payload s
  | .readStatus head opts rest => Sys2Proof.Machine.execReadStatus head opts rest s
  | .readStatusClear head opts rest => Sys2Proof.Machine.execReadStatusClear head opts rest s
  | .setNotices head payload => Sys2Proof.Machine.execSetNotices head payload s
  | .clearNotices head payload => Sys2Proof.Machine.execClearNotices head payload s
  | .readNotices head payload => Sys2Proof.Machine.execReadNotices head payload s
  | .setProfile head payload => Sys2Proof.Machine.execSetProfile head payload s
  | .restart head payload => Sys2Proof.Machine.execRestart head payload s

end Sys2Proof.Machine
end

