-- ==== Sys2Proof/Safety.lean ====
section
/-! DEFINITION. What a sound state of the block is: the bounds and relations the manual gives its buffers, tables and
gains, each an invariant of every step; and the conditions under which a command is taken, which statements use. -/

namespace Sys2Proof.Machine

/-! ## Invariants -/

/-- At most 16 reports wait (R31). -/
def ReportsBounded (s : State) : Prop := s.reports.queue.length ≤ 16

/-- The hold buffer holds at most 32 words (R35). -/
def HoldBounded (s : State) : Prop := holdCount s.ret.hold ≤ 32

/-- The elastic store holds at most 4 frames, and while health is LOST it is empty and its output not primed (R11,
R13, R14). -/
def StoreSound (s : State) : Prop :=
  s.store.frames.length ≤ 4 ∧ (s.dog.health = .lost → s.store.frames = [] ∧ s.store.primed = false)

/-- Entry `a` may stand in front of entry `b`: higher priority, or the same and no later entry time (R137). -/
def Precedes (a b : Entry) : Prop := b.priority < a.priority ∨ a.priority = b.priority ∧ a.entryTime ≤ b.entryTime

/-- The announcement queue holds at most 6 entries, at most one of them active, and no two of the same kind and subject,
and stands in queue order (R137). -/
def QueueSound (s : State) : Prop :=
  s.ann.queue.length ≤ 6 ∧ (s.ann.queue.filter isActive).length ≤ 1 ∧
    (s.ann.queue.map fun e => (e.kind, e.subject)).Nodup ∧ s.ann.queue.Pairwise Precedes

/-- At most four lanes are ANNOUNCE and one BED (R43); the carousel holds at most 12 languages, 1 to 63, none twice
(R46). -/
def ProgrammeSound (s : State) : Prop :=
  countKind .announce s.prog.lanes ≤ 4 ∧ countKind .bed s.prog.lanes ≤ 1 ∧ s.prog.carousel.length ≤ 12 ∧
    s.prog.carousel.Nodup ∧ ∀ t ∈ s.prog.carousel, 1 ≤ t ∧ t ≤ 63

/-- The stop table holds at most 120 stops, of strictly increasing route metre and of distinct numbers (R120). -/
def StopsSound (s : State) : Prop :=
  s.route.stops.length ≤ 120 ∧ (s.route.stops.map (·.metre)).Pairwise (· < ·) ∧ (s.route.stops.map (·.number)).Nodup

/-- A disabled line's poll position stays at 0 and it has no reply window open (R57, R71). -/
def LinesSound (s : State) : Prop :=
  ∀ i : Fin 4, s.lines[i].enabled = false → s.lines[i].pollPos = 0 ∧ s.lines[i].poll = none

/-- The duck gain, every volume gain and every fade gain is a Q15 gain (R84, R104, R106). -/
def GainsSound (s : State) : Prop :=
  s.mixer.duck ≤ 32767 ∧ (∀ i : Fin 65, s.mixer.volumes[i] ≤ 32767) ∧ ∀ i : Fin 65, s.seats.records[i].fade ≤ 32767

/-- Every box's runs lie in 0 to 255 (R63). -/
def BoxRunsBounded (s : State) : Prop :=
  ∀ (i : Fin 4) (b : Fin 8), s.lines[i].boxes[b].missRun ≤ 255 ∧ s.lines[i].boxes[b].goodRun ≤ 255

/-! ## When a command is taken -/

/-- A message that this unit takes with no fault of framing: the reset pin is released, the header names the unit and
has its reserved bits 0, and no word was lost (R21, R25, R26). -/
structure Addressed (h : MsgHead) (s : State) : Prop where
  running : s.pins.held = false
  named : h.unit = s.pins.unit.setWidth 3 ∨ h.unit = 7#3
  whole : h.wordLost = false
  clean : h.reserved = 0#3

/-- The payload of the given numbers. -/
def payload (l : List Nat) : List Word := l.map word

/-- No cue is enabled, so no scan acts (R184, R187). -/
def QuietCues (s : State) : Prop := ∀ i : Fin 32, s.cues.table[i].enabled = false

/-- Only cue `j` is enabled; it does `a` on a trigger kind and parameter, whatever the light (R184 to R186). -/
def OneCue (j : Fin 32) (k : TriggerKind) (param : Nat) (a : CueAction) (s : State) : Prop :=
  s.cues.table[j] = ⟨true, k, param, 0xF#4, 0, a⟩ ∧ ∀ i : Fin 32, i ≠ j → s.cues.table[i].enabled = false

/-- The trunk watchdog has nothing to do at the next local tick: health is OK and a good frame has come (R9). -/
def Healthy (s : State) : Prop := s.dog.health = .ok ∧ s.dog.goodInTick = true

/-- Whether a command is a control message. -/
def isMessage : Instr → Bool
  | .powerOn _ => false
  | .resetAssert => false
  | .resetRelease _ => false
  | .trunkWord _ => false
  | .localTick _ => false
  | .healthLost _ => false
  | .healthRestored _ => false
  | .outputFrame _ => false
  | .meterBlockEnd _ => false
  | .silenceEnd _ => false
  | .fadeSwitch _ _ => false
  | .fadeInComplete _ _ => false
  | .seatReplyWord _ _ => false
  | .jackConfirmed _ _ => false
  | .boxLost _ _ => false
  | .boxRegained _ _ => false
  | .callHoldoffExpiry _ _ => false
  | .returnInWord _ => false
  | .lightTick => false
  | .overlayEnd _ => false
  | .routeTick => false
  | .positionStale => false
  | .announceCue => false
  | .notBeforeReached _ => false
  | .chimeNoteEnd _ => false
  | .chimeEnd _ => false
  | .cueTimeout _ => false
  | .maxPlayTime _ => false
  | .trailingEnd _ => false
  | .ambientSample _ => false
  | .bandConfirmed _ => false
  | .sensorJudgedInvalid _ => false
  | .unknownMessage _ _ _ => true
  | .setLane _ _ => true
  | .setCarousel _ _ => true
  | .readLanes _ _ => true
  | .setSeatLine _ _ => true
  | .readLine _ _ => true
  | .setSeat _ _ => true
  | .setSeatRange _ _ => true
  | .readSeat _ _ => true
  | .setAudio _ _ => true
  | .setRoute _ _ => true
  | .writeStops _ _ => true
  | .readStops _ _ => true
  | .positionFix _ _ _ _ _ => true
  | .positionInvalid _ _ _ _ _ => true
  | .tourStart _ _ => true
  | .tourPause _ _ => true
  | .tourResume _ _ => true
  | .tourEnd _ _ => true
  | .announce _ _ => true
  | .clipStart _ _ => true
  | .clipEnd _ _ => true
  | .cancelTicket _ _ => true
  | .cancelEntry _ _ => true
  | .cancelAll _ _ => true
  | .setChime _ _ => true
  | .setAnnounce _ _ => true
  | .readQueue _ _ => true
  | .setScene _ _ => true
  | .setPattern _ _ => true
  | .applyScene _ _ => true
  | .setZones _ _ => true
  | .readZones _ _ => true
  | .setCue _ _ => true
  | .marker _ _ => true
  | .readCues _ _ => true
  | .setAmbient _ _ => true
  | .readStatus _ _ _ => true
  | .readStatusClear _ _ _ => true
  | .setNotices _ _ => true
  | .clearNotices _ _ => true
  | .readNotices _ _ => true
  | .setProfile _ _ => true
  | .restart _ _ => true

/-! ## Words on the wire -/

/-- A message or report on the wire: SOM, header, payload, EOM, coded (R20). -/
def wireMessage (header : Word) (p : List Word) : List Word :=
  [escWord, somWord] ++ (header :: p).flatMap codeWord ++ [escWord, eomWord]

/-- The reply-slot words of the next `n` return frames, while nothing else happens, and the state after them (R36). -/
def replySlots : Nat → State → List Word × State
  | 0, s => ([], s)
  | n + 1, s =>
    let r := replySlot s
    let rest := replySlots n r.2
    (r.1 :: rest.1, rest.2)

/-- The words of a frame after its sync sum to 0 (R1, R32, R58, R173). -/
def Checked (frame : List Word) : Prop := frame.head? = some syncWord ∧ sumWords frame.tail = 0

/-- The frame the store's output uses in an output frame of state `s` (R14). -/
def usedFrame (s : State) : LaneFrame := (storeTake s).1

/-- A lane's block peak with the frame of this output frame counted in (R15). -/
def nextPeak (s : State) (i : Fin 12) : Nat := max s.meter.lanes[i].peak (magnitude (usedFrame s) i)

/-- Whether record `i` is LISTENING (R76, R77): enabled, and a seat's box REACHABLE and its class HEADSET, or the PA source
not OFF. -/
def listens (s : State) (i : Fin 65) : Bool :=
  s.seats.records[i].enabled &&
    (if i = 64 then s.seats.paSource != .off
    else s.lines[seatLine i].boxes[seatBox i].reach == .reachable
      && s.lines[seatLine i].jacks[seatPlace i].confirmed == some .headset)

/-- Whether record `i` is LISTENING in the mix of an output frame that brings `s` to `t`: its box's reach is the one after
the frame's judgements where its line's order puts them first (R69, R76, R77). -/
def listensIn (o : FrameOrder) (s t : State) (i : Fin 65) : Bool :=
  s.seats.records[i].enabled &&
    (if i = 64 then s.seats.paSource != .off
    else (if o.pollsFirst[seatLine i] then t else s).lines[seatLine i].boxes[seatBox i].reach == .reachable
      && s.lines[seatLine i].jacks[seatPlace i].confirmed == some .headset)

/-- The sample of record `i` in the output frame that brings `s` to `t` (R95 to R99): the frame used, the lane table, the
settings and the announcement as they stand, with the crossfade and the ramps after their steps. -/
def heardSample (o : FrameOrder) (s t : State) (i : Fin 65) : Int :=
  let r := t.seats.records[i]
  let a := s.mixer.audio
  let lane (l : Option (Fin 12)) : Input := laneInput (usedFrame s) s.prog l
  let programme (l : Option (Fin 12)) : Input :=
    if i = 64 ∧ s.seats.paSource = .announceOnly then Input.none else lane l
  let speech : Input :=
    if announceState s = some .playing then lane (planLane (activePlan s) r.language) else Input.none
  let ceiling := if i = 64 then a.paCeiling else a.headsetCeiling
  if listensIn o s t i then
    stages (programme r.sounding) (programme (bedLane s.prog)) speech (chimeSample s.ann.chime) t.mixer.duck r.fade
      t.mixer.volumes[i] (volumeGain (max (min r.step ceiling) (min a.announceFloor ceiling)))
  else 0

/-- The stops evaluated one at a time in table order (R124). -/
def evaluated (s : State) : State := (List.range s.route.stops.length).foldl evaluateStop s

/-- The step that covers the way from a level to a target in `ms` milliseconds (R166, R168). -/
def stepTo (ms target current : Nat) : Nat :=
  let ticks := max 1 (ms / 10)
  max 1 (((target - current) + (current - target) + ticks - 1) / ticks)

/-- The effective target of a base level (R165). -/
def targetOf (h : Health) (floor base : Nat) : Nat := if h = .lost then max base floor else base

/-- A new WAITING entry offered at a time (R136). -/
def offered (kind : EntryKind) (subject priority : Nat) (policy : RepeatPolicy) (count now : Nat) : Entry :=
  ⟨kind, subject, priority, policy, count, none, now, .waiting, 0, none, false, false, none⟩

/-- An entry that returns to WAITING stays in the queue (R154): it is GENERAL, or the session is RUNNING and its stop is
APPROACHED or, for an ARRIVAL, ARRIVED. That an entry whose stop is not in the table stays is read from the rule
(notes/assumptions/22.md). -/
def MayReturn (r : Route) (e : Entry) : Prop :=
  e.kind = .general ∨ r.session = .running ∧
    ∀ st, (r.stops.find? fun x => x.number == e.subject) = some st →
      st.lap = .approached ∨ st.lap = .arrived ∧ e.kind = .arrival

/-- The same entry WAITING again: no ticket, no plan, no flag and no end reason (R149, R153). -/
def waitingAgain (e : Entry) : Entry :=
  { e with state := .waiting, ticket := 0, plan := none, clipStarted := false, heard := false, reason := none }

/-- The chime slot of an entry (R141, R155). -/
def slotOf (e : Entry) : Fin 4 :=
  if e.priority = 3 then 3
  else match e.kind with
    | .approach => 0
    | .arrival => 1
    | .general => 2

/-- The payload of the Set Cue that writes a cue at an index (R188). -/
def cuePayload (i : Fin 32) (c : Cue) : List Word :=
  payload [i.val, bitNat c.enabled, triggerCode c.trigger, c.param, c.mask.toNat, c.threshold, (actionWords c.action).1]
    ++ (actionWords c.action).2

/-- The values of an action lie in their ranges (R186). -/
def ActionOk : CueAction → Prop
  | .scene _ => True
  | .overlay _ _ on off => on ≤ 1023 ∧ off ≤ 1023
  | .clear _ => True
  | .headsetCeiling k => 1 ≤ k ∧ k ≤ 15
  | .paCeiling k => 1 ≤ k ∧ k ≤ 15
  | .paSource _ => True
  | .duckDepth d => d ≤ 8
  | .announce phrase priority _ count => 1 ≤ phrase ∧ phrase ≤ 255 ∧ priority ≤ 3 ∧ count ≤ 7

/-- The highest parameter of a trigger (R184); 0 for a trigger without one. -/
def paramLimit : TriggerKind → Nat
  | .marker => 255
  | .announceCued => 3
  | .announcePlaying => 0
  | .announceEnded => 0
  | .stopApproach => 999
  | .stopArrived => 999
  | .ambientBand => 4
  | .trunkLost => 0
  | .trunkRestored => 0
  | .tour => 2

/-- Whether an action is ANNOUNCE. -/
def announces : CueAction → Bool
  | .announce _ _ _ _ => true
  | .scene _ => false
  | .overlay _ _ _ _ => false
  | .clear _ => false
  | .headsetCeiling _ => false
  | .paCeiling _ => false
  | .paSource _ => false
  | .duckDepth _ => false

/-- Whether a trigger is one of the three ANNOUNCE triggers (R184). -/
def announceTrigger (k : TriggerKind) : Bool := k == .announceCued || k == .announcePlaying || k == .announceEnded

/-- A cue that Set Cue accepts (R188). -/
def CueOk (c : Cue) : Prop :=
  c.param ≤ paramLimit c.trigger ∧ c.threshold ≤ 255 ∧ ActionOk c.action ∧
    (announces c.action = true → announceTrigger c.trigger = false)

/-- The five words of a stop in Write Stops (R121). -/
def stopPayload (st : Stop) : List Nat :=
  [st.number, st.metre, st.approach, st.radius,
    bitNat st.approachFlag + bitNat st.arrivalFlag * 2 + st.priority * 4 + policyCode st.policy * 16 + st.count * 64]

/-- A stop's fields lie in their ranges on a route of the given length, and it is PENDING as written (R120, R122). -/
def StopOk (length : Nat) (st : Stop) : Prop :=
  1 ≤ st.number ∧ st.number ≤ 999 ∧ st.metre ≤ length ∧ st.approach ≤ 2000 ∧ 5 ≤ st.radius ∧ st.radius ≤ 100 ∧
    st.priority ≤ 2 ∧ st.count ≤ 7 ∧ st.lap = .pending

end Sys2Proof.Machine
end

