-- ==== Sys2Proof/Certificates/Slice0/Obligations.lean ====
section
/-! DEFINITION. The statements for the provers. Rules are those of spec/; where a statement rests on a choice of the
model, its docstring names the entry of notes/assumptions/. -/

open Sys2Proof Sys2Proof.Machine

/-! ## The step and its frame -/

/-- A step runs the command at the front of the queue with the rest waiting. That an empty queue idles is the model's
choice (notes/assumptions/9.md). -/
def Obligations.StepRunsFrontCommand : Prop :=
  (∀ (s : State) (c : Instr) (rest : List Instr), s.pending = c :: rest → step s = exec c (s.withPending rest)) ∧
    ∀ s : State, s.pending = [] → step s = .next s

/-- Every command completes in every state, and none touches the queue of waiting commands. That every operation is total,
also in states that no run reaches, is the model's choice (notes/assumptions/24.md), and so are what a held part does
(notes/assumptions/7.md) and the queue of commands itself (notes/assumptions/9.md). -/
def Obligations.EveryCommandCompletesAndKeepsTheQueue : Prop :=
  ∀ (c : Instr) (s : State), ∃ t, exec c s = .next t ∧ t.pending = s.pending

/-- A row of the table that names what comes about inside another step is that step where it is due: where the part runs
and that step brings the named thing about, as stated for each row from the state before and the state after. Where it is
not due, the row changes nothing. That such a row is a command of its own is the model's choice (notes/assumptions/1.md). -/
def Obligations.NamedEventsAreTheirStep : Prop :=
  ∀ (s : State) (wf : Bool) (o : FrameOrder) (r : Fin 65) (i : Fin 4) (w : Word) (z : Fin 16) (x : BitVec 8),
    let row (c step : Instr) (due : State → Prop) : Prop := ∃ t, exec step s = .next t ∧
      (s.pins.held = false → due t → exec c s = .next t) ∧ (s.pins.held = true ∨ ¬due t → exec c s = .next s)
    let ends (st : EntryState) (why : Reason) (t : State) : Prop := ∃ e e', activeEntry s = some e ∧ e.state = st ∧
      activeEntry t = some e' ∧ e'.state = .trailing ∧ e'.reason = some why
    row (.healthLost wf) (.localTick wf) (fun t => s.dog.health = .ok ∧ t.dog.health = .lost) ∧
    row (.healthRestored wf) (.localTick wf) (fun t => s.dog.health = .lost ∧ t.dog.health = .ok) ∧
    row (.callHoldoffExpiry r wf) (.localTick wf) (fun _ => s.seats.records[r].holdoff = 1) ∧
    row (.notBeforeReached wf) (.localTick wf)
      (fun _ => ∃ e q, s.ann.queue = e :: q ∧ e.notBefore = some (s.now + 1)) ∧
    row (.cueTimeout wf) (.localTick wf) (ends .cued .timeout) ∧
    row (.maxPlayTime wf) (.localTick wf) (ends .playing .maxTime) ∧
    row (.meterBlockEnd o) (.outputFrame o) (fun _ => 255 ≤ s.meter.blockPos) ∧
    row (.silenceEnd o) (.outputFrame o) (ends .playing .silence) ∧
    row (.fadeSwitch r o) (.outputFrame o) (fun t => s.seats.records[r].phase = .fadeOut ∧
      t.seats.records[r].phase = .fadeIn ∧ t.seats.records[r].fade = 0) ∧
    row (.fadeInComplete r o) (.outputFrame o) (fun t => s.seats.records[r].phase = .fadeIn ∧
      t.seats.records[r].phase = .steady) ∧
    row (.boxLost i o) (.outputFrame o) (fun t => ∃ b : Fin 8, s.lines[i].boxes[b].reach = .reachable ∧
      t.lines[i].boxes[b].reach = .lost) ∧
    row (.chimeNoteEnd o) (.outputFrame o) (fun _ => ∃ c n, s.ann.chime = some c ∧ c.notes[c.note]? = some n ∧
      n.duration * 16 ≤ c.frame + 1 ∧ c.note + 1 < c.notes.length) ∧
    row (.chimeEnd o) (.outputFrame o) (fun _ => ∃ c, s.ann.chime = some c ∧
      ∀ n, c.notes[c.note]? = some n → n.duration * 16 ≤ c.frame + 1 ∧ c.notes.length ≤ c.note + 1) ∧
    row (.trailingEnd o) (.outputFrame o) (fun t => announceState s = some .trailing ∧ t.mixer.duck = 32767) ∧
    row (.jackConfirmed i w) (.seatReplyWord i w) (fun t => ∃ k : Fin 16,
      t.lines[i].jacks[k].confirmed ≠ s.lines[i].jacks[k].confirmed) ∧
    row (.boxRegained i w) (.seatReplyWord i w) (fun t => ∃ b : Fin 8, s.lines[i].boxes[b].reach = .lost ∧
      t.lines[i].boxes[b].reach = .reachable) ∧
    row (.overlayEnd z) .lightTick (fun t => s.lights.zones[z].overlay ≠ none ∧ t.lights.zones[z].overlay = none) ∧
    row .positionStale .routeTick (fun t => s.route.status ≠ .stale ∧ t.route.status = .stale) ∧
    row (.bandConfirmed x) (.ambientSample x) (fun t => t.cues.ambient.confirmed ≠ none ∧
      t.cues.ambient.confirmed ≠ s.cues.ambient.confirmed) ∧
    row (.sensorJudgedInvalid x) (.ambientSample x) (fun t => s.cues.ambient.invalidRun = 2 ∧
      t.cues.ambient.invalidRun = 3)

/-- What each source of events leaves as it is. A message touches neither the time, the outputs, the trunk receiver, health,
the store, the meter, the return link's receiver or transmitter, nor of the pins anything but the profile; an output frame
neither the time, the trunk receiver, health, the decoder, the programme map, the route nor the cue unit; a reply word, a
return-in word, a route tick, a cue and an ambient sample nothing but the blocks named for each. That Restart, one of the
messages, keeps the local time is the model's choice (notes/assumptions/8.md), for the manual gives the clock no Restart
value. -/
def Obligations.EachStepKeepsToItsBlocks : Prop :=
  ∀ s : State,
    (∀ c, isMessage c = true → ∃ t, exec c s = .next t ∧ t.now = s.now ∧ t.out = s.out ∧ t.trunk = s.trunk ∧
      t.dog = s.dog ∧ t.store = s.store ∧ t.meter = s.meter ∧ t.ret = s.ret ∧ t.tx = s.tx ∧
      t.pins = { s.pins with profile := t.pins.profile }) ∧
    (∀ o, ∃ t, exec (.outputFrame o) s = .next t ∧ t.now = s.now ∧ t.trunk = s.trunk ∧ t.dog = s.dog ∧
      t.decoder = s.decoder ∧ t.prog = s.prog ∧ t.route = s.route ∧ t.cues = s.cues) ∧
    (∀ i w, ∃ t, exec (.seatReplyWord i w) s = .next t ∧
      t = { s with lines := t.lines, seats := t.seats, reports := t.reports, notices := t.notices }) ∧
    (∀ w, ∃ t, exec (.returnInWord w) s = .next t ∧
      t = { s with ret := t.ret, notices := t.notices, out := t.out } ∧ t.out.trunkOut = s.out.trunkOut) ∧
    (∃ t, exec .routeTick s = .next t ∧
      t = { s with
        route := t.route, lights := t.lights, mixer := t.mixer, seats := t.seats, ann := t.ann, reports := t.reports
        notices := t.notices }) ∧
    (∃ t, exec .announceCue s = .next t ∧
      t = { s with
        lights := t.lights, mixer := t.mixer, seats := t.seats, ann := t.ann, reports := t.reports
        notices := t.notices }) ∧
    (∀ x, ∃ t, exec (.ambientSample x) s = .next t ∧
      t = { s with
        cues := t.cues, lights := t.lights, mixer := t.mixer, seats := t.seats, ann := t.ann, reports := t.reports
        notices := t.notices })

/-! ## Power-on and the reset pin -/

/-- The reset state holds the power-on values the manual gives (R19, R42, R44, R47, R74, R93, R107, R110, R135, R160, R162,
R179, R183, R191). Among them stand some that the manual does not give and the model chose: the good-frame mark clear, no
frame words in either receiver, and the word position and missing-sync run of return-in at 0 (notes/assumptions/10.md). -/
def Obligations.ResetHoldsPowerOnValues : Prop :=
  State.reset.trunk = ⟨⟨.hunt, 0, 0, []⟩, ⟨0, Vector.replicate 12 0⟩, 0, 1⟩ ∧
  State.reset.dog = ⟨.lost, 0, 0, false⟩ ∧
  State.reset.store = ⟨[], false, ⟨0, Vector.replicate 12 0⟩⟩ ∧
  State.reset.counters = ⟨0, 0, 0, 0⟩ ∧
  State.reset.meter = ⟨Vector.replicate 12 ⟨0, 0, true⟩, 0⟩ ∧
  State.reset.decoder = ⟨.outside, false, none, [], false, 0⟩ ∧
  State.reset.reports = ⟨[], 0⟩ ∧
  State.reset.notices = ⟨0, 0⟩ ∧
  State.reset.ret = ⟨⟨.hunt, 0, 0, []⟩, Vector.replicate 4 0, 0, .outside, false, []⟩ ∧
  State.reset.tx = ⟨.idle, .none⟩ ∧
  State.reset.prog = ⟨Vector.replicate 12 ⟨.unused, 0, 32767, 4⟩, []⟩ ∧
  State.reset.lines = Vector.replicate 4
    ⟨true, 220, 24, 64, 0, none, Vector.replicate 8 ⟨.unknown, 0, 0⟩, Vector.replicate 16 ⟨none, none, 0, 0⟩⟩ ∧
  State.reset.seats =
    ⟨Vector.replicate 65 ⟨true, none, none, .steady, 32767, 9, false, false, 0⟩, .commentary⟩ ∧
  State.reset.mixer = ⟨32767, Vector.replicate 65 8231, ⟨2, 32, 8, 15, 12, 9, 9⟩⟩ ∧
  State.reset.route = ⟨65535, false, 50, 50, 0, 0, 0, 0, .invalid, false, 0, [], .idle⟩ ∧
  State.reset.ann.queue = [] ∧ State.reset.ann.ticket = 0 ∧ State.reset.ann.chime = none ∧
  State.reset.ann.slots = Vector.replicate 4 [] ∧
  (State.reset.ann.cueTimeout, State.reset.ann.silenceHold, State.reset.ann.replayGap, State.reset.ann.haltUse) =
    (2000, 640, 2000, true) ∧
  State.reset.lights =
    ⟨Vector.replicate 16 ⟨0, 18, none, 0⟩, Vector.replicate 16 [], none, Vector.replicate 4 none, 512, 300⟩ ∧
  State.reset.cues =
    ⟨Vector.replicate 32 ⟨false, .marker, 0, 0, 0, .scene 0⟩, ⟨0, none, none, 0, 0, none, 32, 96, 192, 10⟩⟩

/-- Application of power and release of the reset pin (R192, R193): the power-on values with the straps sampled; after a
release the return output passes return-in through until the next output frame. Between the application of power and the
power-on values, and while the reset pin is held, the return output goes to pass-through and nothing is sent on the seat
lines, the light line and, but for 0, the PA output. The model's choices: a POWER_ON in two commands where words arrive
between, that POWER_ON releases the pin, that RESET_RELEASE acts whether or not the pin was held
(notes/assumptions/5.md), what the outputs keep (notes/assumptions/6.md), that the other state stands unread while the
part is held (notes/assumptions/7.md), and the local time 0 (notes/assumptions/8.md). -/
def Obligations.ResetPinAndPowerOnSetTheOutputs : Prop :=
  (∀ (straps : Straps) (s : State),
    let profile : Profile := if straps.profHigh then .lenient else .strict
    let kept : Outputs := ⟨s.out.trunkOut, s.out.returnOut, Vector.replicate 4 [], ⟨0, 0⟩, []⟩
    (s.pins.phase ≠ .powering → exec (.powerOn ⟨straps, true⟩) s = .next { State.reset with
      pending := s.pending, pins := ⟨.running, false, straps.unit, profile⟩ }) ∧
    exec (.powerOn ⟨straps, false⟩) s = .next { s with
      pins := ⟨.powering, true, straps.unit, profile⟩, out := ⟨none, [], Vector.replicate 4 [], ⟨0, 0⟩, []⟩ } ∧
    (s.pins.phase = .powering → exec (.powerOn ⟨straps, true⟩) s = .next { State.reset with
      pending := s.pending, pins := ⟨.running, false, s.pins.unit, s.pins.profile⟩, out := kept }) ∧
    exec (.resetRelease straps) s = .next { State.reset with
      pending := s.pending, pins := ⟨.running, true, straps.unit, profile⟩, out := kept }) ∧
  (∀ s : State, exec .resetAssert s = .next { s with
    pins := ⟨.reset, true, s.pins.unit, s.pins.profile⟩
    out := ⟨s.out.trunkOut, s.out.returnOut, Vector.replicate 4 [], ⟨0, 0⟩, []⟩ })

/-- While the part is held, by the reset pin or before its power-on values stand, a trunk word is repeated on trunk-out and
a return-in word on the return output, in its pass-through (R193). That every other command but power-on and the pin's own
leaves the whole inner state standing, and changes at most the PA output, which it leaves at 0, is the model's choice
(notes/assumptions/7.md). -/
def Obligations.HeldPartOnlyPassesWordsThrough : Prop :=
  ∀ (c : Instr) (s : State), s.pins.held = true →
    (∀ w, c = .trunkWord w → exec c s = .next { s with out := { s.out with trunkOut := some w } }) ∧
    (∀ w, c = .returnInWord w → s.pins.passThrough = true →
      exec c s = .next { s with out := { s.out with returnOut := [w] } }) ∧
    ((∀ p, c ≠ .powerOn p) → c ≠ .resetAssert → (∀ st, c ≠ .resetRelease st) → (∀ w, c ≠ .trunkWord w) →
      (∀ w, c ≠ .returnInWord w) →
      exec c s = .next s ∨ exec c s = .next { s with out := { s.out with paOut := ⟨0, 0⟩ } })

/-! ## The trunk -/

/-- Every word received on the trunk input is sent on trunk-out as received, whatever the lock, the frame, the health
and the reset pin (R17, R193); the other outputs are left as they are. -/
def Obligations.TrunkOutRepeatsEveryWord : Prop :=
  ∀ (w : Word) (s : State), ∃ t, exec (.trunkWord w) s = .next t ∧ t.out = { s.out with trunkOut := some w }

/-- HUNT, VERIFY, LOCKED and FLYWHEEL (R2 to R4): a candidate sync is confirmed by a second one sixteen words later; a
missing sync at position 0 enters or carries on FLYWHEEL, the third in a row gives up the lock, and a sync returns to
LOCKED. A word of a counted frame before its W15, a sync code among them, is held as a data word and moves the word
position on. Nothing but the receiver's lock and trunk-out changes. -/
def Obligations.LockFollowsTheSyncWords : Prop :=
  ∀ (w : Word) (s : State), s.pins.held = false →
    let goes (l : FrameLock) := exec (.trunkWord w) s =
      .next { s with trunk := { s.trunk with rx := l }, out := { s.out with trunkOut := some w } }
    (s.trunk.rx.lock = .hunt → w ≠ 0x8000#16 → goes s.trunk.rx) ∧
    (s.trunk.rx.lock = .hunt → w = 0x8000#16 → goes ⟨.verify, 0, 0, []⟩) ∧
    (s.trunk.rx.lock = .verify → s.trunk.rx.pos < 15 → goes { s.trunk.rx with pos := s.trunk.rx.pos + 1 }) ∧
    (s.trunk.rx.lock = .verify → s.trunk.rx.pos = 15 → w = 0x8000#16 → goes ⟨.locked, 0, 0, [w]⟩) ∧
    (s.trunk.rx.lock = .verify → s.trunk.rx.pos = 15 → w ≠ 0x8000#16 → goes ⟨.hunt, 0, 0, []⟩) ∧
    (s.trunk.rx.lock = .locked ∨ s.trunk.rx.lock = .flywheel → s.trunk.rx.pos < 14 →
      goes { s.trunk.rx with pos := s.trunk.rx.pos + 1, words := s.trunk.rx.words ++ [w] }) ∧
    (s.trunk.rx.pos = 15 →
      (s.trunk.rx.lock = .locked → w = 0x8000#16 → goes ⟨.locked, 0, 0, [w]⟩) ∧
      (s.trunk.rx.lock = .locked → w ≠ 0x8000#16 → goes ⟨.flywheel, 0, 1, [w]⟩) ∧
      (s.trunk.rx.lock = .flywheel → w = 0x8000#16 → goes ⟨.locked, 0, 0, [w]⟩) ∧
      (s.trunk.rx.lock = .flywheel → w ≠ 0x8000#16 → s.trunk.rx.missRun = 1 → goes ⟨.flywheel, 0, 2, [w]⟩) ∧
      (s.trunk.rx.lock = .flywheel → w ≠ 0x8000#16 → s.trunk.rx.missRun = 2 → goes ⟨.hunt, 0, 0, []⟩))

/-- A good frame is taken at its W15 (R1, R5, R6, R13): its audio becomes the last good frame and, while health is OK,
joins the store; a full store drops its front frame, which is a drop slip, counted and noticed SLIP. Its W14 is handed to
the message decoder, FILL or not, and then a sequence gap is counted, where it follows a good frame and its sequence is not
one more. Nothing else changes; with FILL in its control slot the decoder and what it acts on stand. -/
def Obligations.GoodFrameIsTakenAndCounted : Prop :=
  ∀ (w : Word) (s : State), s.pins.held = false → s.trunk.rx.lock = .locked → s.trunk.rx.pos = 14 →
    s.trunk.rx.words.length = 15 → sumWords (s.trunk.rx.words ++ [w]).tail = 0 →
    let frame := s.trunk.rx.words ++ [w]
    let w1 := frame.getD 1 0
    let slip : Prop := s.dog.health = .ok ∧ 4 ≤ s.store.frames.length
    ∃ t audio, exec (.trunkWord w) s = .next t ∧ audio.mask = w1.setWidth 12 ∧
      (∀ i : Fin 12, audio.samples[i] =
        if w1.getLsbD i.val = false then 0
        else if frame.getD (i.val + 2) 0 = 0x8000#16 then -32767 else (frame.getD (i.val + 2) 0).toInt) ∧
      let u : State := { s with
        trunk := ⟨⟨.locked, 15, s.trunk.rx.missRun, frame⟩, audio, w1.extractLsb' 12 4, 0⟩
        dog := { s.dog with goodInTick := true }
        store := { s.store with frames :=
          if s.dog.health = .lost then s.store.frames
          else if s.store.frames.length < 4 then s.store.frames ++ [audio]
          else s.store.frames.tail ++ [audio] }
        counters := { s.counters with
          dropSlips := if slip then satInc 65535 s.counters.dropSlips else s.counters.dropSlips }
        notices := { s.notices with
          causes := if slip then s.notices.causes ||| 0x008#12 else s.notices.causes }
        out := { s.out with trunkOut := some w } }
      let v := controlWord (frame.getD 14 0) u
      t = { v with counters := { v.counters with
        sequenceGaps :=
          if s.trunk.badRun = 0 ∧ w1.extractLsb' 12 4 ≠ s.trunk.lastSeq + 1 then satInc 65535 v.counters.sequenceGaps
          else v.counters.sequenceGaps } } ∧
      t.trunk = u.trunk ∧ t.dog = u.dog ∧ t.store = u.store ∧
      t.now = s.now ∧ t.meter = s.meter ∧ t.ret = s.ret ∧ t.tx = s.tx ∧
      (s.trunk.rx.words.getD 14 0 = 0 → s.decoder.esc = false → v = u)

/-- A bad frame is taken at its W15 (R5, R7, R8, R13, R25): counted and noticed, its control word lost to the decoder, and
in its place the last good frame again or, after another bad frame, an all-absent one; a full store drops its front frame
for it, which is a drop slip. -/
def Obligations.BadFrameIsConcealed : Prop :=
  ∀ (w : Word) (s : State), s.pins.held = false → s.trunk.rx.pos = 14 →
    (s.trunk.rx.lock = .flywheel ∨
      s.trunk.rx.lock = .locked ∧ sumWords (s.trunk.rx.words ++ [w]).tail ≠ 0) →
    let slip : Prop := s.dog.health = .ok ∧ 4 ≤ s.store.frames.length
    let concealed := if s.trunk.badRun = 0 then s.trunk.lastGood else LaneFrame.absent
    exec (.trunkWord w) s = .next { s with
      trunk := ⟨⟨s.trunk.rx.lock, 15, s.trunk.rx.missRun, s.trunk.rx.words ++ [w]⟩, s.trunk.lastGood, s.trunk.lastSeq,
        satInc 255 s.trunk.badRun⟩
      counters := { s.counters with
        badFrames := satInc 65535 s.counters.badFrames
        dropSlips := if slip then satInc 65535 s.counters.dropSlips else s.counters.dropSlips }
      notices := { s.notices with
        causes := if slip then s.notices.causes ||| 0x00C#12 else s.notices.causes ||| 0x004#12 }
      decoder := { s.decoder with
        esc := false, wordLost := s.decoder.wordLost || decide (s.decoder.state = .inMessage) }
      store := { s.store with frames :=
        if s.dog.health = .lost then s.store.frames
        else if s.store.frames.length < 4 then s.store.frames ++ [concealed]
        else s.store.frames.tail ++ [concealed] }
      out := { s.out with trunkOut := some w } }

/-! ## Local tick and trunk health -/

/-- The local tick (R9, R82): local time advances by a millisecond and every call holdoff that is not 0 falls by one,
whatever else the tick brings; the records are otherwise kept, and what no tick acts on stands. The end of a holdoff is
the local tick that brings it from 1 to 0. The model's choices: a time that never wraps (notes/assumptions/8.md), and the
end of a holdoff as that tick itself (notes/assumptions/1.md). -/
def Obligations.LocalTickCountsDownHoldoffs : Prop :=
  (∀ (watchdogFirst : Bool) (s : State), s.pins.held = false →
    ∃ t, exec (.localTick watchdogFirst) s = .next t ∧ t.now = s.now + 1 ∧
      (∀ i : Fin 65, t.seats.records[i] =
        { s.seats.records[i] with holdoff := s.seats.records[i].holdoff - 1 }) ∧
      t.trunk = s.trunk ∧ t.counters = s.counters ∧ t.meter = s.meter ∧ t.decoder = s.decoder ∧ t.ret = s.ret ∧
      t.tx = s.tx ∧ t.prog = s.prog ∧ t.lines = s.lines ∧ t.route = s.route ∧ t.cues = s.cues ∧ t.out = s.out ∧
      t.pins = s.pins) ∧
  (∀ (i : Fin 65) (watchdogFirst : Bool) (s : State), s.pins.held = false → s.seats.records[i].holdoff = 1 →
    ∃ t, exec (.callHoldoffExpiry i watchdogFirst) s = .next t ∧ t.now = s.now + 1 ∧ t.seats.records[i].holdoff = 0 ∧
      t.seats.records[i] = { s.seats.records[i] with holdoff := 0 })

/-- Trunk health. The watchdog at a local tick (R9, R10): the silent run and the restore run, what resets them, and the
good-frame mark cleared. The fall at the twentieth silent tick (R11): the store is emptied and not primed, TRUNK_LOST is
set and raised to the cue unit, and the lock and the last good frame stand; with no cue enabled, every zone without an
overlay whose effective target changes takes a release step (R166), and an entry that is CUED or PLAYING is TRAILING with
reason TRUNK and an Abort report, its chime stopped and its ticket and plan kept (R150; in the order that lets the timers
act first, where no timer runs out in this tick). The rise at the two hundredth good tick in a row (R12): TRUNK_RESTORED is
set and raised to the cue unit; with no cue enabled, the zones take their release steps and a front entry that may go is
cued (R140), its not-before time compared with the advanced time (notes/assumptions/25.md). -/
def Obligations.HealthFallsAndRises : Prop :=
  (∀ (watchdogFirst : Bool) (s : State), s.pins.held = false →
    ∃ t, exec (.localTick watchdogFirst) s = .next t ∧ t.dog =
      (if s.dog.health = .ok then
        (if s.dog.goodInTick = true then ⟨.ok, 0, s.dog.restoreRun, false⟩
        else if s.dog.silentRun + 1 < 20 then ⟨.ok, s.dog.silentRun + 1, s.dog.restoreRun, false⟩
        else ⟨.lost, 0, 0, false⟩)
      else if s.dog.goodInTick = true then
        (if s.dog.restoreRun + 1 < 200 then ⟨.lost, s.dog.silentRun, s.dog.restoreRun + 1, false⟩
        else ⟨.ok, 0, 0, false⟩)
      else ⟨.lost, s.dog.silentRun, 0, false⟩)) ∧
  (∀ (watchdogFirst : Bool) (s : State), s.pins.held = false → s.dog.health = .ok → s.dog.goodInTick = false →
    s.dog.silentRun = 19 →
    (∃ t, exec (.healthLost watchdogFirst) s = .next t ∧ t.dog = ⟨.lost, 0, 0, false⟩ ∧
      t.store = ⟨[], false, s.store.last⟩ ∧ t.notices.causes.getLsbD 0 = true ∧
      t.trunk = s.trunk ∧ t.counters = s.counters ∧ t.route = s.route ∧ t.prog = s.prog ∧ t.lines = s.lines) ∧
    (QuietCues s → ∃ t, exec (.healthLost watchdogFirst) s = .next t ∧
      (∀ i : Fin 16, t.lights.zones[i] = (let z := s.lights.zones[i]
        if z.overlay = none ∧ z.base < s.lights.floor then
          { z with fadeStep := stepTo s.lights.release s.lights.floor z.current }
        else z)) ∧
      ∀ e : Entry, activeEntry s = some e → (e.state = .cued ∨ e.state = .playing) →
        (watchdogFirst = true ∨ s.ann.cueTimer + 1 < s.ann.cueTimeout ∧ s.ann.playTimer + 1 < 60000) →
        t.ann.chime = none ∧ activeEntry t = some { e with state := .trailing, reason := some .trunk } ∧
        t.reports = (offerReport ⟨0x35#6, 0, [word e.ticket, 6]⟩ s).reports) ∧
    ∀ (j : Fin 32) (q : PaSource), OneCue j .trunkLost 0 (.paSource q) s →
      ∃ t, exec (.healthLost watchdogFirst) s = .next t ∧ t.seats.paSource = q) ∧
  (∀ (watchdogFirst : Bool) (s : State), s.pins.held = false → s.dog.health = .lost → s.dog.goodInTick = true →
    s.dog.restoreRun = 199 →
    (∃ t, exec (.healthRestored watchdogFirst) s = .next t ∧ t.dog = ⟨.ok, 0, 0, false⟩ ∧ t.store = s.store ∧
      t.notices.causes.getLsbD 1 = true ∧ t.trunk = s.trunk ∧ t.counters = s.counters ∧ t.route = s.route) ∧
    (QuietCues s → ∃ t, exec (.healthRestored watchdogFirst) s = .next t ∧
      (∀ i : Fin 16, t.lights.zones[i] = (let z := s.lights.zones[i]
        if z.overlay = none ∧ z.base < s.lights.floor then
          { z with fadeStep := stepTo s.lights.release z.base z.current }
        else z)) ∧
      ∀ (e : Entry) (q : List Entry), s.ann.queue = e :: q → activeEntry s = none →
        (∀ n, e.notBefore = some n → n ≤ s.now + 1) → buildPlan s ≠ [] → 2 ≤ s.ann.cueTimeout →
        announceState t = some .cued ∧ (activeEntry t).map (·.subject) = some e.subject) ∧
    ∀ (j : Fin 32) (q : PaSource), OneCue j .trunkRestored 0 (.paSource q) s →
      ∃ t, exec (.healthRestored watchdogFirst) s = .next t ∧ t.seats.paSource = q)

/-! ## The output frame -/

/-- The store's output (R14): the frame used and the store, primed flag and last output frame after the output frame,
by health, primed flag and store, and the repeat slip. -/
def Obligations.OutputFrameTakesFromTheStore : Prop :=
  ∀ (o : FrameOrder) (s : State), s.pins.held = false →
    ∃ t, exec (.outputFrame o) s = .next t ∧
      t.store.last = usedFrame s ∧
      (s.dog.health = .lost → usedFrame s = LaneFrame.absent ∧ t.store.frames = s.store.frames ∧
        t.store.primed = s.store.primed) ∧
      (s.dog.health = .ok → s.store.primed = false → s.store.frames.length < 2 →
        usedFrame s = LaneFrame.absent ∧ t.store.frames = s.store.frames ∧ t.store.primed = false) ∧
      (∀ f fs, s.dog.health = .ok → s.store.frames = f :: fs → s.store.primed = true ∨ fs ≠ [] →
        usedFrame s = f ∧ t.store.frames = fs ∧ t.store.primed = true) ∧
      (s.dog.health = .ok → s.store.primed = true → s.store.frames = [] →
        usedFrame s = s.store.last ∧ t.store.frames = [] ∧ t.store.primed = true ∧
        t.counters.repeatSlips = satInc 65535 s.counters.repeatSlips ∧ t.notices.causes.getLsbD 3 = true)

/-- The lane meter (R15, R16): within a block every lane's peak takes in the frame used and the position advances; at the
end every lane's level is the number of significant bits of its peak, its quiet flag the comparison with its silence
level, and the peak and the position return to 0. -/
def Obligations.MeterMeasuresInBlocksOf256Frames : Prop :=
  (∀ (o : FrameOrder) (s : State), s.pins.held = false → s.meter.blockPos < 255 →
    ∃ t, exec (.outputFrame o) s = .next t ∧ t.meter.blockPos = s.meter.blockPos + 1 ∧
      ∀ i : Fin 12, t.meter.lanes[i] = { s.meter.lanes[i] with peak := nextPeak s i }) ∧
  (∀ (o : FrameOrder) (s : State), s.pins.held = false → s.meter.blockPos = 255 →
    ∃ t, exec (.meterBlockEnd o) s = .next t ∧ t.meter.blockPos = 0 ∧
      ∀ i : Fin 12, t.meter.lanes[i].peak = 0 ∧
        (nextPeak s i = 0 → t.meter.lanes[i].level = 0) ∧
        (nextPeak s i ≠ 0 → 2 ^ (t.meter.lanes[i].level - 1) ≤ nextPeak s i ∧
          nextPeak s i < 2 ^ t.meter.lanes[i].level ∧ 1 ≤ t.meter.lanes[i].level) ∧
        t.meter.lanes[i].quiet = decide (t.meter.lanes[i].level ≤ s.prog.lanes[i].silence))

/-- The ramps of an output frame (R84, R85, R104 to R106): the duck gain, every volume gain and every crossfade take one
step from what stands at its start. -/
def Obligations.OutputFrameStepsEveryRamp : Prop :=
  ∀ (o : FrameOrder) (s : State), s.pins.held = false →
    ∃ t, exec (.outputFrame o) s = .next t ∧
      t.mixer.duck = moveToward
        (if announceState s = some .cued ∨ announceState s = some .playing then depthGain s.mixer.audio.duckDepth
          else 32767)
        s.mixer.audio.release s.mixer.audio.attack s.mixer.duck ∧
      (∀ i : Fin 65, t.mixer.volumes[i] = moveToward
        (volumeGain (min s.seats.records[i].step
          (if i = 64 then s.mixer.audio.paCeiling else s.mixer.audio.headsetCeiling)))
        64 64 s.mixer.volumes[i]) ∧
      ∀ i : Fin 65, t.seats.records[i] = crossfade s.prog s.seats.records[i]

/-- The crossfade (R84, R85), row by row at an output frame: a fade begins where the target differs; a fall that reaches 0
in OUT gives the record its target lane and the phase IN, and a rise that reaches 32767 in IN makes the phase STEADY; a
target that returns in OUT reverses the fade into IN, and one that changes in IN reverses it into OUT, from the gain
reached. A whole crossfade is 256 output frames out and 256 in, the lane switched at gain 0 in the 256th. That a reversal
into OUT which reaches gain 0 at once switches the lane in the next frame is read from the rows
(notes/assumptions/27.md). -/
def Obligations.CrossfadeSwitchesAndCompletes : Prop :=
  (∀ (i : Fin 65) (o : FrameOrder) (s : State), s.pins.held = false → s.seats.records[i].phase = .fadeOut →
    s.seats.records[i].fade ≤ 128 → s.seats.records[i].sounding ≠ commentaryLane s.prog s.seats.records[i].language →
    ∃ t, exec (.fadeSwitch i o) s = .next t ∧
      t.seats.records[i] = { s.seats.records[i] with
        sounding := commentaryLane s.prog s.seats.records[i].language, phase := .fadeIn, fade := 0 }) ∧
  (∀ (i : Fin 65) (o : FrameOrder) (s : State), s.pins.held = false → s.seats.records[i].phase = .fadeIn →
    32639 ≤ s.seats.records[i].fade → s.seats.records[i].sounding = commentaryLane s.prog s.seats.records[i].language →
    ∃ t, exec (.fadeInComplete i o) s = .next t ∧
      t.seats.records[i] = { s.seats.records[i] with phase := .steady, fade := 32767 }) ∧
  (∀ (i : Fin 65) (o : FrameOrder) (s : State), s.pins.held = false →
    let r := s.seats.records[i]
    let same : Prop := r.sounding = commentaryLane s.prog r.language
    ∃ t, exec (.outputFrame o) s = .next t ∧
      (r.phase = .steady → same → t.seats.records[i] = r) ∧
      (r.phase = .steady → ¬same → t.seats.records[i] = { r with phase := .fadeOut, fade := r.fade - 128 }) ∧
      (r.phase = .fadeOut → same →
        t.seats.records[i] = { r with phase := .fadeIn, fade := min 32767 (r.fade + 128) }) ∧
      (r.phase = .fadeOut → ¬same → 128 < r.fade → t.seats.records[i] = { r with fade := r.fade - 128 }) ∧
      (r.phase = .fadeIn → same → r.fade < 32639 → t.seats.records[i] = { r with fade := r.fade + 128 }) ∧
      (r.phase = .fadeIn → ¬same → t.seats.records[i] = { r with phase := .fadeOut, fade := r.fade - 128 })) ∧
  (∀ (p : Programme) (r : SeatRecord), r.phase = .fadeIn → r.fade ≤ 128 → r.sounding ≠ commentaryLane p r.language →
    (crossfade p)^[1] r = { r with phase := .fadeOut, fade := 0 } ∧
    (crossfade p)^[2] r = { r with phase := .fadeIn, fade := 0, sounding := commentaryLane p r.language }) ∧
  (∀ (p : Programme) (r : SeatRecord), r.phase = .steady → r.fade = 32767 → r.sounding ≠ commentaryLane p r.language →
    (crossfade p)^[255] r = { r with phase := .fadeOut, fade := 127 } ∧
    (crossfade p)^[256] r = { r with phase := .fadeIn, fade := 0, sounding := commentaryLane p r.language } ∧
    (crossfade p)^[511] r = { r with phase := .fadeIn, fade := 32640, sounding := commentaryLane p r.language } ∧
    (crossfade p)^[512] r = { r with phase := .steady, fade := 32767, sounding := commentaryLane p r.language })

/-- The stages of the mix keep within the ranges of R100 for all inputs and gains in theirs, and every product with its
rounding within that of stage 3, which fits in signed 32 bits; S and V may exceed the range of a sample, and are carried
as they are to the sum that stage 7 clamps. -/
def Obligations.MixStagesStayInRange : Prop :=
  (∀ (c b a : Input) (t : Int) (duck fade vol ann : Nat),
    c.sample.natAbs ≤ 32767 → b.sample.natAbs ≤ 32767 → a.sample.natAbs ≤ 32767 → t.natAbs ≤ 32767 →
    c.trim ≤ 32767 → b.trim ≤ 32767 → a.trim ≤ 32767 → duck ≤ 32767 → fade ≤ 32767 → vol ≤ 32767 → ann ≤ 32767 →
    let c' := scale c.sample c.trim
    let b' := scale b.sample b.trim
    let a' := scale a.sample a.trim
    let p := scale c' duck
    let q := scale b' duck
    let s := scale (p + q) fade
    let v := scale s vol
    let x := scale a' ann
    let y := scale t ann
    c'.natAbs ≤ 32766 ∧ b'.natAbs ≤ 32766 ∧ a'.natAbs ≤ 32766 ∧ p.natAbs ≤ 32766 ∧ q.natAbs ≤ 32766 ∧
      (p + q).natAbs ≤ 65532 ∧ s.natAbs ≤ 65531 ∧ v.natAbs ≤ 65530 ∧ x.natAbs ≤ 32766 ∧ y.natAbs ≤ 32766 ∧
      (v + x + y).natAbs ≤ 131062 ∧
      (∀ z ∈ [c.sample * c.trim, b.sample * b.trim, a.sample * a.trim, c' * duck, b' * duck, (p + q) * fade, s * vol,
        a' * ann, t * ann], z.natAbs ≤ 65532 * 32767 ∧ (z + 16384).natAbs < 2147483647) ∧
      stages c b a t duck fade vol ann = max (-32767) (min 32767 (v + x + y))) ∧
  ∃ (c b : Input), c.sample.natAbs ≤ 32767 ∧ b.sample.natAbs ≤ 32767 ∧ c.trim ≤ 32767 ∧ b.trim ≤ 32767 ∧
    let s := scale (scale (scale c.sample c.trim) 32767 + scale (scale b.sample b.trim) 32767) 32767
    32767 < s ∧ 32767 < scale s 32767

/-- The frames that an output frame sends. On every enabled line a seat frame of nineteen words that passes its check, its
sixteen samples those of the mix of this frame (R57, R58, R95 to R99), with no sync code among them, and its poll word
(R59), and nothing on a disabled one; each enabled line then awaits the polled box and its poll position has advanced. The
PA record's sample in both channel slots of the PA output (R101). A return frame of eight words that passes its check
(R32): the own status word in its place among the held ones (R33, R34), the attention mask with the own bit, and in the
reply slot the transmitter's word (R36); pass-through is left. The model's choices: where the parts of the frame stand in
order (notes/assumptions/11.md), and that reports pending is shown from before the reply slot's take
(notes/assumptions/28.md). -/
def Obligations.OutputFrameSendsCheckedFrames : Prop :=
  ∀ (o : FrameOrder) (s : State), s.pins.held = false →
    ∃ t, exec (.outputFrame o) s = .next t ∧
      t.pins = { s.pins with passThrough := false } ∧ t.out.trunkOut = s.out.trunkOut ∧ t.out.lightOut = s.out.lightOut ∧
      (∀ i : Fin 65, -32767 ≤ heardSample o s t i ∧ heardSample o s t i ≤ 32767) ∧
      t.out.paOut.left.toInt = heardSample o s t 64 ∧ t.out.paOut.right = t.out.paOut.left ∧
      (∀ i : Fin 4,
        (s.lines[i].enabled = true →
          t.out.seatOut[i].length = 19 ∧ Checked t.out.seatOut[i] ∧
          (∀ k : Fin 16, ∃ w, t.out.seatOut[i][k.val + 1]? = some w ∧ w ≠ 0x8000#16 ∧
            w.toInt = heardSample o s t (Fin.ofNat 65 (i.val * 16 + k.val))) ∧
          t.out.seatOut[i][17]? = some (word (
            let box := s.lines[i].pollPos
            let language (right : Bool) := languageIndex s.prog s.seats.records[seatIndex i box right].language
            let lamp : Bool := announceState s == some .cued || announceState s == some .playing
            box.val + language false * 8 + language true * 128 + bitNat lamp * 2048)) ∧
          t.lines[i].poll = some ⟨s.lines[i].pollPos, [], false⟩ ∧ t.lines[i].pollPos = s.lines[i].pollPos + 1) ∧
        (s.lines[i].enabled = false →
          t.out.seatOut[i] = [] ∧ t.lines[i].poll = none ∧ t.lines[i].pollPos = s.lines[i].pollPos)) ∧
      t.out.returnOut.length = 8 ∧ Checked t.out.returnOut ∧
      (∃ st : Word,
        (∀ j : Fin 4, t.out.returnOut[j.val + 1]? =
          some (if j.val = s.pins.unit.toNat then st else s.ret.status[j])) ∧
        st.getLsbD 0 = decide (s.dog.health = .ok) ∧ (st.extractLsb' 1 2).toNat = lockCode s.trunk.rx.lock ∧
        (st.extractLsb' 3 2).toNat = sessionCode s.route.session ∧
        (st.extractLsb' 9 3).toNat = positionCode s.route.status ∧
        (st.extractLsb' 12 3).toNat = bandCode s.cues.ambient.confirmed ∧ st.getLsbD 15 = false ∧
        (st.extractLsb' 5 2).toNat = announceCode (announceState (if o.returnFirst then s else t)) ∧
        (o.returnFirst = true → st.getLsbD 8 = decide (s.reports.queue ≠ [])) ∧
        (s.reports.queue ≠ [] → st.getLsbD 8 = true) ∧
        (o.returnFirst = false → st.getLsbD 7 = attention t.notices) ∧
        (attention s.notices = true → st.getLsbD 7 = true) ∧ (st.getLsbD 7 = true → attention t.notices = true) ∧
        ∃ a : Word, t.out.returnOut[5]? = some a ∧ ∀ k : Fin 16, a.getLsbD k.val =
          if k.val = s.pins.unit.toNat then st.getLsbD 7 else decide (k.val < 4) && s.ret.attention.getLsbD k.val) ∧
      ∃ u : State, u.tx = s.tx ∧ u.ret = s.ret ∧ u.pins.unit = s.pins.unit ∧ s.reports.queue <+: u.reports.queue ∧
        (o.returnFirst = true → u.reports = s.reports) ∧ t.out.returnOut[6]? = some (replySlot u).1 ∧
        t.tx = (replySlot u).2.tx ∧ t.ret = (replySlot u).2.ret ∧
        (o.returnFirst = false → t.reports = (replySlot u).2.reports)

/-- Silence (R146): at a block end of a PLAYING entry with a plan, a plan lane that is not quiet sets its heard flag and
returns the silence run to 0; with every plan lane quiet, the run of a heard entry increases by 1, and at the silence hold
the entry goes to TRAILING with reason SILENCE and no Abort report; an entry not yet heard stands, and so does every entry
at a frame within a block. -/
def Obligations.SilenceEndsAHeardAnnouncement : Prop :=
  ∀ (o : FrameOrder) (s : State) (e : Entry), s.pins.held = false → activeEntry s = some e → e.state = .playing →
    e.plan.getD [] ≠ [] →
    let quiet : Prop := ∀ q ∈ e.plan.getD [], peakLevel (nextPeak s q.lane) ≤ s.prog.lanes[q.lane].silence
    let due : Prop := (s.ann.silenceHold + 15) / 16 ≤ s.ann.silenceRun + 1
    let goes (c : Instr) (e' : Entry) (run : Nat) : Prop := ∃ t, exec c s = .next t ∧ activeEntry t = some e' ∧
      t.ann.silenceRun = run ∧ t.reports = (replySlot s).2.reports
    (s.meter.blockPos = 255 →
      (¬quiet → goes (.meterBlockEnd o) { e with heard := true } 0) ∧
      (quiet → e.heard = false → goes (.meterBlockEnd o) e s.ann.silenceRun) ∧
      (quiet → e.heard = true → ¬due → goes (.meterBlockEnd o) e (s.ann.silenceRun + 1)) ∧
      (quiet → e.heard = true → due →
        goes (.silenceEnd o) { e with state := .trailing, reason := some .silence } (s.ann.silenceRun + 1))) ∧
    (s.meter.blockPos < 255 → goes (.outputFrame o) e s.ann.silenceRun)

/-- The chime (R143, R144, R156): after a note's last frame the next note begins at frame index 0. At its end, with no cue
enabled, a CUED entry with clip-started set becomes PLAYING, one with an empty plan goes to TRAILING with NO_LANES, and
any other stays CUED. -/
def Obligations.ChimeGoesThroughItsNotesAndEnds : Prop :=
  (∀ (o : FrameOrder) (s : State) (c : Chime) (n : Note), s.pins.held = false → announceState s = some .cued →
    s.ann.chime = some c → c.notes[c.note]? = some n → c.frame + 1 = n.duration * 16 → c.note + 1 < c.notes.length →
    ∃ t, exec (.chimeNoteEnd o) s = .next t ∧ t.ann.chime = some { c with note := c.note + 1, frame := 0 }) ∧
  (∀ (o : FrameOrder) (s : State) (e : Entry) (c : Chime) (n : Note), s.pins.held = false → QuietCues s →
    activeEntry s = some e → e.state = .cued → s.ann.chime = some c → c.notes[c.note]? = some n →
    c.frame + 1 = n.duration * 16 → c.note + 1 = c.notes.length →
    ∃ t, exec (.chimeEnd o) s = .next t ∧ t.ann.chime = none ∧
      activeEntry t = some
        (if e.plan.getD [] = [] then { e with state := .trailing, reason := some .noLanes }
        else if e.clipStarted = true then { e with state := .playing }
        else e) ∧
      (e.plan.getD [] ≠ [] → e.clipStarted = true → t.ann.playTimer = 0 ∧ t.ann.silenceRun = 0))

/-- The end of TRAILING (R106, R152 to R154), at the output frame whose duck step brings the duck gain to 32767 or finds it
there, with no cue enabled: the Ended report with the ticket and the reason; after a normal end the policy, with the count
and the halt condition, says whether the entry replays, and a stop's entry replays only where its lap state and the session
allow; a replay waits in queue order with its ticket and plan cleared, and every other entry is removed. The queue is
stated where no entry may be cued next; where the front one may, that one becomes active. With one cue enabled,
ANNOUNCE_ENDED is scanned. While the gain stays below 32767 the entry stays in TRAILING. Read from the rules: where the end
stands in the output frame (notes/assumptions/11.md), that the next cue follows in it (notes/assumptions/2.md), and that a
returning entry whose stop is not in the table stays (notes/assumptions/22.md). -/
def Obligations.TrailingEndsAtFullDuckGain : Prop :=
  let full (s : State) : Prop := s.mixer.duck ≤ 32767 ∧ 32767 ≤ s.mixer.duck + s.mixer.audio.release
  (∀ (o : FrameOrder) (s : State) (e : Entry) (r : Reason), s.pins.held = false → QuietCues s →
    activeEntry s = some e → e.state = .trailing → full s → e.reason = some r →
    let halted : Bool := s.ann.haltUse && decide (s.route.speed ≤ s.route.haltSpeed)
    let left := if e.policy = .count ∨ e.policy = .countWhileHalted then e.count - 1 else e.count
    let again : Prop := match e.policy with
      | .once => False
      | .count => 0 < left
      | .whileHalted => halted = true
      | .countWhileHalted => 0 < left ∧ halted = true
    let replays : Prop := (r = .clipEnd ∨ r = .silence) ∧ again ∧ MayReturn s.route e
    let ended : Report := ⟨0x36#6, 0, [word e.ticket, word (reasonCode r)]⟩
    let rest := s.ann.queue.filter fun f => f.state == .waiting
    let goes (q : List Entry) : Prop := ∃ t, exec (.trailingEnd o) s = .next t ∧ t.mixer.duck = 32767 ∧
      ((∀ f q', q = f :: q' → s.dog.health = .lost ∨ ∃ n, f.notBefore = some n ∧ s.now < n) →
        t.ann.queue = q ∧ activeEntry t = none ∧ heldLanes t = [] ∧
        t.reports =
          (if o.returnFirst = true then (offerReport ended (replySlot s).2).reports
          else (replySlot (offerReport ended s)).2.reports)) ∧
      ∀ f q', q = f :: q' → s.dog.health = .ok → (∀ n, f.notBefore = some n → n ≤ s.now) →
        (activeEntry t).map (·.kind) = some f.kind ∧ (activeEntry t).map (·.subject) = some f.subject
    (replays → goes (insertEntry { waitingAgain e with
      count := left, notBefore := some (s.now + s.ann.replayGap), entryTime := s.now } rest)) ∧
    (¬replays → goes rest)) ∧
  (∀ (o : FrameOrder) (s : State) (j : Fin 32) (q : PaSource), s.pins.held = false →
    OneCue j .announceEnded 0 (.paSource q) s → announceState s = some .trailing → full s →
    ∃ t, exec (.trailingEnd o) s = .next t ∧ t.seats.paSource = q) ∧
  ∀ (o : FrameOrder) (s : State), s.pins.held = false → announceState s = some .trailing →
    s.mixer.duck + s.mixer.audio.release < 32767 →
    exec (.trailingEnd o) s = .next s ∧
    ∃ t, exec (.outputFrame o) s = .next t ∧ t.mixer.duck = s.mixer.duck + s.mixer.audio.release ∧
      t.ann.queue = s.ann.queue ∧ t.reports = (replySlot s).2.reports

/-- The reach of a box (R62 to R64): at the sixteenth missed poll in a row, judged as its reply window closes, a REACHABLE
box is LOST and BOX_LOST is set, its seats' classes standing; at its fourth valid reply in a row a LOST box is REACHABLE
and BOX_REGAINED is set. -/
def Obligations.BoxIsLostAndRegained : Prop :=
  (∀ (i : Fin 4) (o : FrameOrder) (s : State) (p : Poll) (good : Nat), s.pins.held = false →
    s.lines[i].poll = some p → p.judged = false → s.lines[i].boxes[p.box] = ⟨.reachable, 15, good⟩ →
    ∃ t, exec (.boxLost i o) s = .next t ∧ t.lines[i].boxes[p.box] = ⟨.lost, 16, 0⟩ ∧
      t.notices.causes.getLsbD 6 = true ∧ t.lines[i].jacks = s.lines[i].jacks ∧
      ∀ b : Fin 8, b ≠ p.box → t.lines[i].boxes[b] = s.lines[i].boxes[b]) ∧
  (∀ (i : Fin 4) (box : Fin 8) (keys sense check : Word) (s : State), s.pins.held = false →
    s.lines[i].poll = some ⟨box, [0x8000#16, keys, sense], false⟩ → keys + sense + check = 0 →
    s.lines[i].boxes[box] = ⟨.lost, 0, 3⟩ →
    ∃ t, exec (.boxRegained i check) s = .next t ∧ t.lines[i].boxes[box] = ⟨.reachable, 0, 4⟩ ∧
      t.notices.causes.getLsbD 7 = true)

/-! ## Seat lines and seats -/

/-- Replies (R60 to R66): a word is kept while fewer than four have come in an open window, and is discarded with none
open. At the fourth word of a valid reply the box's runs and reach are updated, both sense levels are taken, the keys are
delivered to the left seat and then the right one (notes/assumptions/15.md) and the poll is judged; the line's other boxes
and seats, and the other lines, stand. -/
def Obligations.ValidReplyUpdatesItsBox : Prop :=
  (∀ (i : Fin 4) (w : Word) (s : State), s.pins.held = false →
    (s.lines[i].poll = none → exec (.seatReplyWord i w) s = .next s) ∧
    ∀ p, s.lines[i].poll = some p → p.words.length < 3 →
      exec (.seatReplyWord i w) s = .next (s.withLines (setAt s.lines i
        { s.lines[i] with poll := some ⟨p.box, p.words ++ [w], p.judged⟩ }))) ∧
  (∀ (i : Fin 4) (box : Fin 8) (keys sense check : Word) (s : State), s.pins.held = false →
    s.lines[i].poll = some ⟨box, [0x8000#16, keys, sense], false⟩ → keys + sense + check = 0 →
    ∃ t, exec (.seatReplyWord i check) s = .next t ∧
      t.lines[i].poll = some ⟨box, [0x8000#16, keys, sense, check], true⟩ ∧
      t.lines[i].boxes[box].missRun = 0 ∧
      t.lines[i].boxes[box].goodRun = satInc 255 s.lines[i].boxes[box].goodRun ∧
      (s.lines[i].boxes[box].reach ≠ .lost → t.lines[i].boxes[box].reach = .reachable) ∧
      t.lines[i].jacks[sidePlace box false] =
        takeReading s.lines[i] (keys.getLsbD 5) (sense.toNat % 256) s.lines[i].jacks[sidePlace box false] ∧
      t.lines[i].jacks[sidePlace box true] =
        takeReading s.lines[i] (keys.getLsbD 11) (sense.toNat / 256) s.lines[i].jacks[sidePlace box true] ∧
      (∀ b : Fin 8, b ≠ box → t.lines[i].boxes[b] = s.lines[i].boxes[b]) ∧
      (∀ k : Fin 16, k ≠ sidePlace box false → k ≠ sidePlace box true → t.lines[i].jacks[k] = s.lines[i].jacks[k]) ∧
      (∀ j : Fin 4, j ≠ i → t.lines[j] = s.lines[j]) ∧
      let pressed := deliverKeys (seatIndex i box true) (keysOf keys true)
        (deliverKeys (seatIndex i box false) (keysOf keys false) s)
      t.seats = pressed.seats ∧ t.reports = pressed.reports)

/-- The class of each side of a box at a valid reply (R65 to R67): the reading's class is the candidate; its run begins at 1
where the side's JACK_CHANGE bit is set or the candidate changes, and otherwise increases; a run at the debounce count
confirms a candidate that is not the confirmed class. JACK_FAULT is set where a side becomes SHORT, and by nothing else in
the reply. -/
def Obligations.JackClassIsConfirmedAtTheDebounceCount : Prop :=
  ∀ (i : Fin 4) (box : Fin 8) (keys sense check : Word) (s : State), s.pins.held = false →
    s.lines[i].poll = some ⟨box, [0x8000#16, keys, sense], false⟩ → keys + sense + check = 0 →
    let line := s.lines[i]
    let jack (right : Bool) : SeatJack := line.jacks[sidePlace box right]
    let level (right : Bool) : Nat := if right = true then sense.toNat / 256 else sense.toNat % 256
    let cls (right : Bool) : JackClass :=
      if line.openThreshold ≤ level right then .unplugged
      else if level right < line.shortThreshold then .short
      else .headset
    let run (right : Bool) : Nat :=
      if keys.getLsbD (if right = true then 11 else 5) = true ∨ (jack right).candidate ≠ some (cls right) then 1
      else satInc 255 (jack right).run
    let due (right : Bool) : Prop := line.debounce ≤ run right ∧ (jack right).confirmed ≠ some (cls right)
    ∃ t, exec (.seatReplyWord i check) s = .next t ∧
      ((∃ right, due right) → exec (.jackConfirmed i check) s = .next t) ∧
      (∀ right : Bool, t.lines[i].jacks[sidePlace box right] =
        ⟨if due right then some (cls right) else (jack right).confirmed, some (cls right), run right, level right⟩) ∧
      (t.notices.causes.getLsbD 8 = true ↔
        s.notices.causes.getLsbD 8 = true ∨ ∃ right, due right ∧ cls right = .short)

/-- Each box keeps a miss run and a good run, 0 to 255 and saturating (R63): a valid reply steps the good run and clears
the miss run, a missed poll the reverse, in every reach state; the reach is judged by the runs so updated; and Read Line
reports both. No step takes a run out of its range. -/
def Obligations.BoxRunsCountRepliesAndMissedPolls : Prop :=
  (∀ (i : Fin 4) (box : Fin 8) (keys sense check : Word) (s : State), s.pins.held = false →
    s.lines[i].poll = some ⟨box, [0x8000#16, keys, sense], false⟩ → keys + sense + check = 0 →
    let before := s.lines[i].boxes[box]
    ∃ t, exec (.seatReplyWord i check) s = .next t ∧ t.lines[i].boxes[box] =
      ⟨if before.reach = .lost ∧ min 255 (before.goodRun + 1) ≠ 4 then .lost else .reachable, 0,
        min 255 (before.goodRun + 1)⟩) ∧
  (∀ (i : Fin 4) (o : FrameOrder) (s : State) (p : Poll), s.pins.held = false → s.lines[i].poll = some p →
    p.judged = false →
    let before := s.lines[i].boxes[p.box]
    ∃ t, exec (.outputFrame o) s = .next t ∧ t.lines[i].boxes[p.box] =
      ⟨if before.reach = .reachable ∧ min 255 (before.missRun + 1) = 16 then .lost else before.reach,
        min 255 (before.missRun + 1), 0⟩) ∧
  (∀ (h : MsgHead) (s : State) (i : Fin 4) (b : Fin 8), Addressed h s → BoxRunsBounded s →
    ∃ (data : List Word) (w : Word),
      exec (.readLine h (payload [i.val])) s =
        .next (offerReport ⟨0x3F#6, h.tag, 0x0C :: 0 :: data⟩ (decoderIdle s)) ∧
      data[b.val + 4]? = some w ∧ (w.extractLsb' 0 8).toNat = s.lines[i].boxes[b].missRun ∧
      (w.extractLsb' 8 8).toNat = s.lines[i].boxes[b].goodRun) ∧
  ∀ s t : State, BoxRunsBounded s → step s = .next t → BoxRunsBounded t

/-- A delivery of keys to an enabled seat (R79 to R83): the volume keys move the step by one within 0 to 15, the language
keys the language round the carousel, both unless locked; a call with the holdoff at 0 sets it to 2000 and queues a Seat
Call. A disabled seat discards them. -/
def Obligations.KeysActOnTheirSeat : Prop :=
  ∀ (i : Fin 65) (k : Keys) (s : State), s.seats.records[i].step ≤ 15 → ¬(k.volumeUp = true ∧ k.volumeDown = true) →
    ¬(k.languageNext = true ∧ k.languagePrev = true) →
    let r := s.seats.records[i]
    let t := deliverKeys i k s
    (r.enabled = false → t = s) ∧
    (r.enabled = true →
      t.seats.records[i].step =
        (if r.volumeLock = true then r.step
        else if k.volumeUp = true then min 15 (r.step + 1)
        else if k.volumeDown = true then r.step - 1 else r.step) ∧
      (r.languageLock = true → t.seats.records[i].language = r.language) ∧
      (∀ j l : Nat, r.languageLock = false → s.prog.carousel.Nodup → s.prog.carousel[j]? = some l → r.language = some l →
        t.seats.records[i].language =
          (if k.languageNext = true then s.prog.carousel[(j + 1) % s.prog.carousel.length]?
          else if k.languagePrev = true then
            s.prog.carousel[(j + s.prog.carousel.length - 1) % s.prog.carousel.length]?
          else some l)) ∧
      (r.holdoff = 0 → k.call = true →
        t.seats.records[i].holdoff = 2000 ∧ t.reports = (offerReport ⟨0x0E#6, 0, [word i.val]⟩ s).reports) ∧
      (r.holdoff ≠ 0 ∨ k.call = false → t.seats.records[i].holdoff = r.holdoff ∧ t.reports = s.reports) ∧
      t.seats.records[i] = { r with
        language := t.seats.records[i].language, step := t.seats.records[i].step
        holdoff := t.seats.records[i].holdoff } ∧
      (∀ j : Fin 65, j ≠ i → t.seats.records[j] = s.seats.records[j]) ∧
      t = { s with seats := ⟨t.seats.records, s.seats.paSource⟩, reports := t.reports, notices := t.notices })

/-! ## The return link -/

/-- Return-in (R34, R35). The lock over frames of eight words; a frame that is bad, or ends in FLYWHEEL, leaves the held
status words and the mask and costs the tracker its word, as the loss of the lock does; a good one gives its status words
but the own unit's, its mask, and its reply-slot word to the tracker. The tracker in OUTSIDE, IN and SKIP: what of the
messages it stores in the hold buffer, and the notice and the truncation when the buffer has no room. That a SOM finding
the buffer full truncates the old message is read from the rules (notes/assumptions/18.md). -/
def Obligations.ReturnInHoldsAGoodFrame : Prop :=
  (∀ (w : Word) (s : State), s.pins.held = false →
    let p := if s.pins.passThrough = true then s.withOut { s.out with returnOut := [w] } else s
    let l := s.ret.rx
    let goes (r : ReturnIn) : Prop := exec (.returnInWord w) s = .next (p.withRet r)
    let at_ (m : FrameLock) : ReturnIn := { s.ret with rx := m }
    let dropped (r : ReturnIn) : ReturnIn :=
      if r.track = .inMessage then { r with
        track := .skip, esc := false
        hold := modifyLast (fun m => ⟨if r.esc = true then m.words.dropLast else m.words, true, true⟩) r.hold }
      else { r with esc := false }
    (l.lock = .hunt → w ≠ 0x8000#16 → goes s.ret) ∧
    (l.lock = .hunt → w = 0x8000#16 → goes (at_ ⟨.verify, 0, 0, []⟩)) ∧
    (l.lock = .verify → l.pos < 7 → goes (at_ { l with pos := l.pos + 1 })) ∧
    (l.lock = .verify → l.pos = 7 → w = 0x8000#16 → goes (at_ ⟨.locked, 0, 0, [w]⟩)) ∧
    (l.lock = .verify → l.pos = 7 → w ≠ 0x8000#16 → goes (dropped (at_ ⟨.hunt, 0, 0, []⟩))) ∧
    (l.lock = .locked ∨ l.lock = .flywheel → l.pos < 6 →
      goes (at_ { l with pos := l.pos + 1, words := l.words ++ [w] })) ∧
    (l.lock = .locked ∨ l.lock = .flywheel → l.pos = 7 → w = 0x8000#16 → goes (at_ ⟨.locked, 0, 0, [w]⟩)) ∧
    (l.lock = .locked → l.pos = 7 → w ≠ 0x8000#16 → goes (at_ ⟨.flywheel, 0, 1, [w]⟩)) ∧
    (l.lock = .flywheel → l.pos = 7 → w ≠ 0x8000#16 → l.missRun < 2 →
      goes (at_ ⟨.flywheel, 0, l.missRun + 1, [w]⟩)) ∧
    (l.lock = .flywheel → l.pos = 7 → w ≠ 0x8000#16 → l.missRun = 2 → goes (dropped (at_ ⟨.hunt, 0, 0, []⟩))) ∧
    let ended := { l with pos := 7, words := l.words ++ [w] }
    (l.pos = 6 → l.lock = .flywheel ∨ l.lock = .locked ∧ sumWords (l.words ++ [w]).tail ≠ 0 →
      goes (dropped (at_ ended))) ∧
    (l.pos = 6 → l.lock = .locked → l.words.length = 7 → sumWords (l.words ++ [w]).tail = 0 →
      exec (.returnInWord w) s = .next (trackWord (l.words.getD 6 0) (p.withRet { s.ret with
        rx := ended, attention := l.words.getD 5 0
        status := Vector.ofFn fun i =>
          if i.val = s.pins.unit.toNat then s.ret.status[i] else l.words.getD (i.val + 1) 0 })))) ∧
  (∀ (w : Word) (s : State),
    let goes (r : ReturnIn) : Prop := trackWord w s = s.withRet r
    let full (r : ReturnIn) : Prop :=
      trackWord w s = (s.withRet r).withNotices ⟨s.notices.causes ||| 0x800#12, s.notices.enables⟩
    let opens : Prop :=
      (holdCount s.ret.hold + 2 ≤ 32 → goes { s.ret with
        track := .inMessage, esc := false, hold := s.ret.hold ++ [⟨[0x1B1B#16, 0x0001#16], false, false⟩] }) ∧
      (32 < holdCount s.ret.hold + 2 → full { s.ret with track := .skip, esc := false })
    (s.ret.track ≠ .inMessage → s.ret.esc = false → goes { s.ret with esc := decide (w = 0x1B1B#16) }) ∧
    (s.ret.track ≠ .inMessage → s.ret.esc = true → w = 0x0001#16 → opens) ∧
    (s.ret.track ≠ .inMessage → s.ret.esc = true → w = 0x0002#16 ∨ w = 0x0003#16 →
      goes { s.ret with track := .outside, esc := false }) ∧
    (s.ret.track ≠ .inMessage → s.ret.esc = true → w ≠ 0x0001#16 → w ≠ 0x0002#16 → w ≠ 0x0003#16 →
      goes { s.ret with esc := false })) ∧
  ∀ (w : Word) (s : State) (rest : List HeldMessage) (m : HeldMessage), s.ret.track = .inMessage →
    s.ret.hold = rest ++ [m] →
    let goes (r : ReturnIn) : Prop := trackWord w s = s.withRet r
    let full (r : ReturnIn) : Prop :=
      trackWord w s = (s.withRet r).withNotices ⟨s.notices.causes ||| 0x800#12, s.notices.enables⟩
    let room : Prop := holdCount s.ret.hold < 32
    (s.ret.esc = false → w = 0 → trackWord w s = s) ∧
    (s.ret.esc = false → w ≠ 0 →
      (room → goes { s.ret with
        esc := decide (w = 0x1B1B#16), hold := rest ++ [{ m with words := m.words ++ [w] }] }) ∧
      (¬room → full { s.ret with
        track := .skip, esc := decide (w = 0x1B1B#16), hold := rest ++ [⟨m.words, true, true⟩] })) ∧
    (s.ret.esc = true → m.words ≠ [] →
      (room → w = 0x0001#16 → goes { s.ret with
        esc := false
        hold := rest ++ [{ m with words := m.words.dropLast, closed := true }] ++
          [⟨[0x1B1B#16, 0x0001#16], false, false⟩] }) ∧
      (room → w = 0x0002#16 ∨ w = 0x0003#16 → goes { s.ret with
        track := .outside, esc := false, hold := rest ++ [{ m with words := m.words ++ [w], closed := true }] }) ∧
      (room → w ≠ 0x0001#16 → w ≠ 0x0002#16 → w ≠ 0x0003#16 → goes { s.ret with
        esc := false, hold := rest ++ [{ m with words := m.words ++ [w] }] }) ∧
      (¬room → full { s.ret with
        track := .skip, esc := false, hold := rest ++ [⟨m.words.dropLast, true, true⟩] }))

/-- The return transmitter and the report queue it takes from (R20, R30, R31, R36). An offered report joins the back of a
queue of fewer than sixteen, and at sixteen is lost, counted and noticed REPORT_LOST, the queue kept. From IDLE the slots
that follow carry the front report's coded words, whole and unbroken, and the turn passes downstream; or a held message's
words, as they came, and the turn passes to the own reports. With both waiting the turn mark decides. A truncated message
is ended with an ABT pair once its words are out; FILL goes out in FORWARD while no word may be taken, and in IDLE while
nothing waits. -/
def Obligations.ReportGoesOutWholeOnTheReplySlot : Prop :=
  (∀ (s : State) (r : Report),
    (s.reports.queue.length < 16 →
      offerReport r s = { s with reports := { s.reports with queue := s.reports.queue ++ [r] } }) ∧
    (16 ≤ s.reports.queue.length →
      offerReport r s = { s with
        reports := { s.reports with lost := satInc 65535 s.reports.lost }
        notices := { s.notices with causes := s.notices.causes ||| 0x020#12 } })) ∧
  (∀ (s : State) (r : Report) (q : List Report), s.tx.mode = .idle → s.reports.queue = r :: q →
    s.ret.hold = [] ∨ s.tx.turn = .localNext →
    let coded := wireMessage (headerWord (s.pins.unit.setWidth 3) r.kind r.tag 0) r.payload
    replySlots coded.length s =
      (coded, (s.withReports { s.reports with queue := q }).withTx ⟨.idle, .downstreamNext⟩)) ∧
  (∀ (s : State) (header : Word) (p : List Word) (rest : List HeldMessage), s.tx.mode = .idle →
    s.reports.queue = [] ∨ s.tx.turn ≠ .localNext →
    let held := wireMessage header p
    s.ret.hold = ⟨held, true, false⟩ :: rest →
    replySlots held.length s = (held, (s.withRet { s.ret with hold := rest }).withTx ⟨.idle, .localNext⟩)) ∧
  (∀ (s : State) (afterEsc closed : Bool) (rest : List HeldMessage), s.tx.mode = .forward afterEsc →
    s.ret.hold = ⟨[], closed, true⟩ :: rest →
    replySlots 2 s = ([0x1B1B#16, 0x0003#16], (s.withRet { s.ret with hold := rest }).withTx ⟨.idle, .localNext⟩)) ∧
  (∀ (s : State) (w v : Word) (ws : List Word) (closed cut : Bool) (rest : List HeldMessage) (afterEsc : Bool),
    s.tx.mode = .forward afterEsc → s.ret.hold = ⟨w :: v :: ws, closed, cut⟩ :: rest →
    replySlot s = (w, (s.withRet { s.ret with hold := ⟨v :: ws, closed, cut⟩ :: rest }).withTx
      ⟨.forward (!afterEsc && decide (w = 0x1B1B#16)), .none⟩)) ∧
  (∀ (s : State) (m : HeldMessage) (rest : List HeldMessage) (afterEsc : Bool), s.tx.mode = .forward afterEsc →
    s.ret.hold = m :: rest → m.truncated = false →
    m.words = [] ∧ m.closed = false ∨ m.words = [0x1B1B#16] ∧ afterEsc = false →
    replySlot s = (0, s.withTx ⟨.forward false, .none⟩)) ∧
  ∀ s : State, s.tx.mode = .idle → s.reports.queue = [] → s.ret.hold = [] → replySlot s = (0, s)

/-! ## Lighting -/

/-- The light tick (R171 to R173): a zone without an overlay moves toward its effective target by its fade step; one with
an overlay shows its pattern's step, and its tick count, step and cycles remaining advance. One light frame of eighteen
words that passes its check carries the levels. When an overlay's last cycle is complete it is removed, and the zone takes
the release step toward its effective target from the level shown. -/
def Obligations.LightTickMovesZonesAndSendsAFrame : Prop :=
  (∀ s : State, s.pins.held = false →
    ∃ t, exec .lightTick s = .next t ∧
      t = (s.withLights { s.lights with zones := t.lights.zones }).withOut { s.out with lightOut := t.out.lightOut } ∧
      (∀ i : Fin 16, s.lights.zones[i].overlay = none →
        (let z := s.lights.zones[i]
        t.lights.zones[i] = { z with
          current := moveToward (targetOf s.dog.health s.lights.floor z.base) z.fadeStep z.fadeStep z.current })) ∧
      t.out.lightOut.length = 18 ∧ Checked t.out.lightOut ∧
      ∀ i : Fin 16, t.out.lightOut[i.val + 1]? = some (word t.lights.zones[i].current)) ∧
  ∀ (s : State) (i : Fin 16) (v : Overlay) (p : Pattern), s.pins.held = false → s.lights.zones[i].overlay = some v →
    s.lights.patterns[v.pattern] = some p →
    let shown :=
      targetOf s.dog.health s.lights.floor (if p.mask.getLsbD v.step = true then v.onLevel else v.offLevel)
    (v.tick + 1 < p.length ∨ v.step < 15 ∨ v.cycles ≠ 1 → ∃ t, exec .lightTick s = .next t ∧
      t.lights.zones[i] = { s.lights.zones[i] with
        current := shown
        overlay := some
          (if v.tick + 1 < p.length then { v with tick := v.tick + 1 }
          else if v.step < 15 then { v with tick := 0, step := v.step + 1 }
          else { v with tick := 0, step := 0, cycles := v.cycles - 1 }) }) ∧
    (p.length ≤ v.tick + 1 → 15 ≤ v.step → v.cycles = 1 → ∃ t, exec (.overlayEnd i) s = .next t ∧
      t.lights.zones[i] = { s.lights.zones[i] with
        current := shown, overlay := none
        fadeStep :=
          stepTo s.lights.release (targetOf s.dog.health s.lights.floor s.lights.zones[i].base) shown })

/-! ## The route -/

/-- The route tick (R117, R118, R124): while the status is FRESH or DEAD_RECKONED the age rises and, to age 150, the
estimate advances by the speed, with the remainder carried; it is bounded at the end of a LINE, and wraps at the end of a
LOOP with the effects of a lap wrap. In RUNNING the stops are evaluated in table order where the estimate has changed, and
the cue that this completes follows, which is read from the rules (notes/assumptions/2.md). Otherwise nothing changes. The
position becomes STALE, with its notice, at the tick that brings the age to 151. -/
def Obligations.RouteTickReckonsUntilThePositionIsStale : Prop :=
  (∀ s : State, s.pins.held = false →
    let r := s.route
    let moved := if r.age < 150 then r.estimate + (r.speed + r.remainder) / 50 else r.estimate
    let wraps : Bool := r.loop && decide (r.length * 100 ≤ moved)
    let p : State := { s with
      route := { r with
        age := r.age + 1
        remainder := if r.age < 150 then (r.speed + r.remainder) % 50 else r.remainder
        estimate := if wraps = true then moved - r.length * 100
          else if r.loop = true then moved else min (r.length * 100) moved
        status := if r.age < 50 then .fresh else if r.age < 150 then .deadReckoned else .stale
        laps := if wraps = true then satInc 65535 r.laps else r.laps
        stops := if wraps = true then r.stops.map fun st => { st with lap := .pending } else r.stops }
      ann := { s.ann with queue := if wraps = true then
          s.ann.queue.filter fun e =>
            !(e.state == .waiting && e.kind != .general && (r.stops.map (·.number)).contains e.subject)
        else s.ann.queue }
      notices := if r.age < 150 then s.notices else ⟨s.notices.causes ||| 0x400#12, s.notices.enables⟩ }
    (r.status = .invalid ∨ r.status = .stale → exec .routeTick s = .next s) ∧
    (r.status = .fresh ∨ r.status = .deadReckoned → exec .routeTick s = .next (tryCue
      (if r.session = .running ∧ r.age < 150 ∧ p.route.estimate ≠ r.estimate then evaluated p else p)))) ∧
  ∀ s : State, s.pins.held = false → s.route.status = .deadReckoned → s.route.age = 150 →
    s.route.estimate < s.route.length * 100 →
    ∃ t, exec .positionStale s = .next t ∧ t.route = { s.route with age := 151, status := .stale } ∧
      t.notices.causes.getLsbD 10 = true

/-- The checks of one stop (R124 to R128), with their effects in order: beyond its window it is PASSED, its WAITING
entries go and its Stop Event is queued; in its arrival window with the bus halted it is ARRIVED, its WAITING APPROACH
entry goes, its ARRIVAL entry is offered where its flag asks for it, STOP_ARRIVED is raised and its Stop Event is queued;
PENDING in its approach window it is APPROACHED, its APPROACH entry is offered and STOP_APPROACH is raised; ARRIVED and
beyond its window it loses its WAITING ARRIVAL entry; and nothing else changes. -/
def Obligations.StopIsPassedArrivedOrApproached : Prop :=
  ∀ (s : State) (i : Nat) (st : Stop), s.route.stops[i]? = some st →
    let e := s.route.estimate
    let marked (l : LapState) : State :=
      s.withRoute { s.route with stops := s.route.stops.set i { st with lap := l } }
    let without (k : EntryKind → Bool) (u : State) : State := u.withAnn { u.ann with
      queue := u.ann.queue.filter fun f => !(f.state == .waiting && k f.kind && f.subject == st.number) }
    let offers (flag : Bool) (f : Entry) (u : State) : State := if flag = true then offer f u else u
    let event (n : Word) (u : State) : State := offerReport ⟨0x1E#6, 0, [word st.number, n]⟩ u
    let pass : Prop := (st.lap = .pending ∨ st.lap = .approached) ∧ (st.metre + st.radius) * 100 < e
    let arrive : Prop := (st.lap = .pending ∨ st.lap = .approached) ∧ st.metre * 100 ≤ e + st.radius * 100 ∧
      e ≤ (st.metre + st.radius) * 100 ∧ s.route.speed ≤ s.route.haltSpeed
    let approach : Prop := st.lap = .pending ∧ st.metre * 100 ≤ e + st.approach * 100 ∧
      e + st.radius * 100 < st.metre * 100
    let leave : Prop := st.lap = .arrived ∧ (st.metre + st.radius) * 100 < e
    (pass → evaluateStop s i = event 2 (without (· != .general) (marked .passed))) ∧
    (arrive → evaluateStop s i = event 1 (raise ⟨.stopArrived, st.number⟩ (offers st.arrivalFlag
      (offered .arrival st.number st.priority st.policy st.count s.now) (without (· == .approach) (marked .arrived))))) ∧
    (approach → evaluateStop s i = raise ⟨.stopApproach, st.number⟩ (offers st.approachFlag
      (offered .approach st.number st.priority .once 0 s.now) (marked .approached))) ∧
    (leave → evaluateStop s i = without (· == .arrival) s) ∧
    (¬pass → ¬arrive → ¬approach → ¬leave → evaluateStop s i = s)

/-! ## The ambient light input -/

/-- An ambient sample (R180 to R182): a valid reading is smoothed and judged; an INVALID one leaves all but the last
reading and the invalid run alone until the third in a row. A band is confirmed when its run reaches the dwell; at the
third INVALID reading in a row SENSOR_INVALID is set, the candidate is none with run 0 and the confirmed band INVALID.
With one cue enabled, a change of the confirmed band is scanned as AMBIENT_BAND (R184). -/
def Obligations.AmbientSampleIsSmoothedAndJudged : Prop :=
  (∀ (x : BitVec 8) (s : State), s.pins.held = false →
    let a := s.cues.ambient
    let rail : Prop := x = 0#8 ∨ x = 255#8
    ∃ t, exec (.ambientSample x) s = .next t ∧ t.cues.table = s.cues.table ∧ t.cues.ambient.last = x.toNat ∧
      (rail → t.cues.ambient.smoothed = a.smoothed ∧
        (a.invalidRun ≤ 255 → t.cues.ambient.invalidRun = min 255 (a.invalidRun + 1)) ∧
        (a.invalidRun + 1 ≠ 3 → t.cues.ambient.candidate = a.candidate ∧ t.cues.ambient.run = a.run ∧
          t.cues.ambient.confirmed = a.confirmed)) ∧
      (¬rail → t.cues.ambient.invalidRun = 0 ∧
        (a.smoothed = none → t.cues.ambient.smoothed = some x.toNat) ∧
        (∀ v, a.smoothed = some v → v ≤ 255 →
          ∃ v', t.cues.ambient.smoothed = some v' ∧ (v' : Int) = v + ((x.toNat : Int) - v + 4) / 8) ∧
        t.cues.ambient.candidate = t.cues.ambient.smoothed.map (bandOf a) ∧
        t.cues.ambient.run = (if t.cues.ambient.candidate = a.candidate then satInc 65535 a.run else 1) ∧
        t.cues.ambient.confirmed =
          (if a.dwell * 10 ≤ t.cues.ambient.run then t.cues.ambient.candidate else a.confirmed)) ∧
      ∀ (j : Fin 32) (q : PaSource), t.cues.ambient.confirmed ≠ a.confirmed →
        OneCue j .ambientBand (bandCode t.cues.ambient.confirmed) (.paSource q) s → t.seats.paSource = q) ∧
  ((∀ (x : BitVec 8) (s : State) (b : Band), s.pins.held = false → x ≠ 0#8 → x ≠ 255#8 →
    bandOf s.cues.ambient (smooth s.cues.ambient.smoothed x.toNat) = b → s.cues.ambient.candidate = some b →
    s.cues.ambient.confirmed ≠ some b → s.cues.ambient.run < 65535 →
    s.cues.ambient.dwell * 10 ≤ s.cues.ambient.run + 1 →
    ∃ t, exec (.bandConfirmed x) s = .next t ∧ t.cues.ambient.confirmed = some b ∧
      t.cues.ambient.run = s.cues.ambient.run + 1) ∧
  (∀ (x : BitVec 8) (s : State), s.pins.held = false → x = 0#8 ∨ x = 255#8 → s.cues.ambient.invalidRun = 2 →
    ∃ t, exec (.sensorJudgedInvalid x) s = .next t ∧ t.notices.causes.getLsbD 9 = true ∧
      t.cues.ambient = { s.cues.ambient with
        last := x.toNat, invalidRun := 3, candidate := none, run := 0, confirmed := none }))

/-! ## Announcements -/

/-- The cue (R140 to R143): where the conditions hold, the front entry takes the next ticket and the plan, the Cue report is
queued, word by word, and the chime of its slot starts; with no cue of the cue table enabled it becomes CUED, or goes to
TRAILING with NO_LANES where it has neither a plan nor a chime. With one cue enabled, ANNOUNCE_CUED is scanned with the
entry's kind. A replay is cued at the local tick that reaches its not-before time. The plan of a carousel without repeats:
the default language takes its lowest home lane among the ANNOUNCE lanes, or the lowest of any tag; every other language
that a LISTENING record has chosen takes, in carousel order, its lowest home lane, and those without one the lanes left
over, lowest first, while they last; it is empty where there is no default language or no ANNOUNCE lane. That ANNOUNCE_CUE
examines the conditions by itself is read from the rules (notes/assumptions/2.md), and so is that the tick advances the
time first (notes/assumptions/25.md). -/
def Obligations.FrontEntryIsCuedWhenItMayGo : Prop :=
  (∀ (s : State) (e : Entry) (q : List Entry), s.pins.held = false → s.ann.queue = e :: q →
    activeEntry s = none → s.dog.health = .ok → (∀ n, e.notBefore = some n → n ≤ s.now) →
    let ticket := if s.ann.ticket = 0 ∨ 255 ≤ s.ann.ticket then 1 else s.ann.ticket + 1
    let plan := buildPlan s
    let notes := s.ann.slots[slotOf e]
    let mute : Prop := plan = [] ∧ notes = []
    let kind := match e.kind with
      | .approach => 0
      | .arrival => 1
      | .general => 2
    (QuietCues s → ∃ t, exec .announceCue s = .next t ∧ t.ann.ticket = ticket ∧ t.ann.cueTimer = 0 ∧
      t.ann.chime = (if notes = [] then none else some ⟨slotOf e, notes, 0, 0⟩) ∧
      heldLanes t = plan.map (·.lane) ∧
      (¬mute → activeEntry t = some { e with
        state := .cued, ticket := ticket, plan := some plan, clipStarted := false, heard := false
        reason := none }) ∧
      (mute → activeEntry t = some { e with
        state := .trailing, ticket := ticket, plan := some [], clipStarted := false, heard := false
        reason := some .noLanes }) ∧
      t.reports = (offerReport ⟨0x34#6, 0, payload ([ticket, kind, e.subject, e.priority, plan.length] ++
        plan.map fun p => p.language + p.lane.val * 256)⟩ s).reports) ∧
    ∀ (j : Fin 32) (k : Nat) (pa : PaSource), k = kind ∨ k = 3 → OneCue j .announceCued k (.paSource pa) s →
      ∃ t, exec .announceCue s = .next t ∧ t.ann.ticket = ticket ∧ t.seats.paSource = pa) ∧
  (∀ (watchdogFirst : Bool) (s : State) (e : Entry) (q : List Entry), s.pins.held = false → QuietCues s → Healthy s →
    s.ann.queue = e :: q → activeEntry s = none → e.notBefore = some (s.now + 1) → buildPlan s ≠ [] →
    ∃ t, exec (.notBeforeReached watchdogFirst) s = .next t ∧ t.now = s.now + 1 ∧
      announceState t = some .cued ∧ (activeEntry t).map (·.subject) = some e.subject) ∧
  (∀ s : State, s.prog.carousel = [] → buildPlan s = []) ∧
  (∀ (s : State) (d : Nat) (members : List Nat), s.prog.carousel = d :: members → (d :: members).Nodup →
    let lanes := (List.finRange 12).filter fun i => decide (s.prog.lanes[i].kind = .announce)
    let homeIn (l : List (Fin 12)) (tag : Nat) := l.find? fun i => decide (s.prog.lanes[i].tag = tag)
    let others := members.filter fun tag =>
      (List.finRange 65).any fun i => listens s i && decide (s.seats.records[i].language = some tag)
    (lanes = [] → buildPlan s = []) ∧
    ∀ first : Fin 12, homeIn lanes d = some first ∨ homeIn lanes d = none ∧ lanes.head? = some first →
      let home (tag : Nat) := homeIn (lanes.erase first) tag
      let spare := (lanes.erase first).filter fun i => others.all fun tag => decide (home tag ≠ some i)
      let homeless := others.filter fun tag => decide (home tag = none)
      buildPlan s = ⟨d, first⟩ :: others.filterMap fun tag =>
        match home tag with
        | some i => some ⟨tag, i⟩
        | none => spare[homeless.idxOf tag]?.map fun i => ⟨tag, i⟩)

/-- The timers (R147, R148): a CUED entry without its clip goes to TRAILING with reason TIMEOUT at the cue timeout, a
PLAYING entry with reason MAX_TIME at 60,000 ms, each with an Abort report. -/
def Obligations.TimersAbortTheActiveEntry : Prop :=
  (∀ (watchdogFirst : Bool) (s : State) (e : Entry), s.pins.held = false → Healthy s → activeEntry s = some e →
    e.state = .cued → e.clipStarted = false → e.plan.getD [] ≠ [] → s.ann.cueTimeout ≤ s.ann.cueTimer + 1 →
    ∃ t, exec (.cueTimeout watchdogFirst) s = .next t ∧ t.ann.chime = none ∧
      activeEntry t = some { e with state := .trailing, reason := some .timeout } ∧
      t.reports = (offerReport ⟨0x35#6, 0, [word e.ticket, 3]⟩ s).reports) ∧
  (∀ (watchdogFirst : Bool) (s : State) (e : Entry), s.pins.held = false → Healthy s → activeEntry s = some e →
    e.state = .playing → s.ann.playTimer = 59999 →
    ∃ t, exec (.maxPlayTime watchdogFirst) s = .next t ∧ t.ann.chime = none ∧
      activeEntry t = some { e with state := .trailing, reason := some .maxTime } ∧
      t.reports = (offerReport ⟨0x35#6, 0, [word e.ticket, 4]⟩ s).reports)

/-! ## Messages in general -/

/-- The message decoder (R20 to R25), word by word in each of its states: OUTSIDE, where a word or pair that starts nothing
is garbled, counted and noticed; IN_MESSAGE, with its data words and pairs, and the refusals LENGTH, FRAMING and WORD_LOST;
DISCARD, which only a SOM pair leaves. The control slot brings messages whole: the coded words of a message, taken one by
one from OUTSIDE, come to what the manual says of the whole message: dropped where its header names another unit, refused
LENGTH at a 65th payload word, and otherwise judged at its EOM. A message whose SOM was lost is garbled once for each of its
words and once for its EOM pair. The message taken whole is the form in which the message rows give it, which is the
model's choice (notes/assumptions/3.md). -/
def Obligations.ControlSlotBringsWholeMessages : Prop :=
  (∀ (header : Word) (p : List Word) (s : State), s.decoder.state = .outside → s.decoder.esc = false →
    (wireMessage header p).foldl (fun t w => controlWord w t) s = receive (headOf header false) (headerKind header) p s) ∧
  (∀ (p : List Word) (s : State), s.decoder.state = .outside → s.decoder.esc = false → s.decoder.garbled ≤ 65535 →
    (p.flatMap codeWord ++ [0x1B1B#16, 0x0002#16]).foldl (fun t w => controlWord w t) s = { s with
      decoder := { s.decoder with garbled := min 65535 (s.decoder.garbled + p.length + 1) }
      notices := { s.notices with causes := s.notices.causes ||| 0x010#12 } }) ∧
  (∀ (w : Word) (s : State),
    let d := s.decoder
    let fresh (st : DecoderState) : Decoder := ⟨st, false, none, [], false, d.garbled⟩
    let goes (d' : Decoder) : Prop := controlWord w s = { s with decoder := d' }
    let garbles (d' : Decoder) : Prop := controlWord w s = { s with
      decoder := { d' with garbled := satInc 65535 d.garbled }
      notices := { s.notices with causes := s.notices.causes ||| 0x010#12 } }
    let refuses (header result : Word) (d' : Decoder) : Prop := controlWord w s =
      { offerReport ⟨0x3F#6, header.extractLsb' 3 4, [word (header.extractLsb' 7 6).toNat, result]⟩ s with decoder := d' }
    let broken : Word := if d.wordLost = true then 9 else 11
    let names (unit : BitVec 3) : Prop := unit = s.pins.unit.setWidth 3 ∨ unit = 7#3
    let data : Prop := d.esc = false ∧ w ≠ 0 ∧ w ≠ 0x1B1B#16 ∨ d.esc = true ∧ (w = 0 ∨ w = 0x1B1B#16)
    (d.esc = false → w = 0 → goes d) ∧
    (d.esc = false → w = 0x1B1B#16 → goes { d with esc := true }) ∧
    (d.state = .outside → d.esc = false → w ≠ 0 → w ≠ 0x1B1B#16 → garbles d) ∧
    (d.state = .outside → d.esc = true →
      (w = 1 → goes (fresh .inMessage)) ∧
      (w = 3 → goes { d with esc := false }) ∧
      (w ≠ 1 → w ≠ 3 → garbles { d with esc := false })) ∧
    (d.state = .inMessage → data →
      (d.header = none → names (w.extractLsb' 13 3) → goes { d with esc := false, header := some w }) ∧
      (d.header = none → ¬names (w.extractLsb' 13 3) → goes (fresh .discard)) ∧
      (d.header ≠ none → d.payload.length < 64 → goes { d with esc := false, payload := d.payload ++ [w] }) ∧
      ∀ header, d.header = some header → 64 ≤ d.payload.length → refuses header 2 (fresh .discard)) ∧
    (d.state = .inMessage → d.esc = true → d.header = none →
      (w = 1 → goes (fresh .inMessage)) ∧
      (w = 2 → garbles (fresh .outside)) ∧
      (w = 3 → goes (fresh .outside)) ∧
      (¬data → w ≠ 1 → w ≠ 2 → w ≠ 3 → garbles (fresh .discard))) ∧
    (∀ header, d.state = .inMessage → d.esc = true → d.header = some header →
      (w = 1 → refuses header broken (fresh .inMessage)) ∧
      (w = 2 → d.wordLost = true → refuses header 9 (fresh .outside)) ∧
      (w = 2 → d.wordLost = false → names (header.extractLsb' 13 3) → d.payload.length ≤ 64 →
        controlWord w s = receive (headOf header false) (headerKind header) d.payload s) ∧
      (w = 3 → goes (fresh .outside)) ∧
      (¬data → w ≠ 1 → w ≠ 2 → w ≠ 3 → refuses header broken (fresh .discard))) ∧
    (d.state = .discard → d.esc = false → w ≠ 0x1B1B#16 → goes d) ∧
    (d.state = .discard → d.esc = true →
      (w = 1 → goes (fresh .inMessage)) ∧ (w ≠ 1 → goes { d with esc := false })))

/-- A refused message writes none of the tables, settings or states it would have written (R26): only the report queue and
the notices may change before its Reply (the Abort of a stale Clip Start, R144). -/
def Obligations.RefusedMessageWritesNothing : Prop :=
  ∀ (k : MsgKind) (strict : Bool) (p : List Word) (s : State), (judgeKind k strict p s).result ≠ .accepted →
    (judgeKind k strict p s).data = [] ∧
    (judgeKind k strict p s).state = { s with
      reports := (judgeKind k strict p s).state.reports, notices := (judgeKind k strict p s).state.notices }

/-- The profiles (R27): what STRICT accepts, LENIENT accepts with the same effect; and under LENIENT the words beyond the
required length are ignored. -/
def Obligations.LenientIsTheWeakerProfile : Prop :=
  (∀ (k : MsgKind) (p : List Word) (s : State), (judgeKind k true p s).result = .accepted →
    judgeKind k false p s = judgeKind k true p s) ∧
  ∀ (k : MsgKind) (p extra : List Word) (s : State), (judgeKind k false p s).result ≠ .length →
    judgeKind k false (p ++ extra) s = judgeKind k false p s

/-- A message of a kind that is no control message's is refused UNKNOWN_KIND and always answered (R26, R29); where sixteen
reports wait, its Reply is lost, counted and noticed REPORT_LOST, and the sixteen are kept (R31). For another unit it is
dropped without a Reply (R21, R23). -/
def Obligations.UnknownKindIsRefusedAndAnswered : Prop :=
  ∀ (h : MsgHead) (code : BitVec 6) (p : List Word) (s : State), kindOf code = none →
    (Addressed h s → p.length ≤ 64 → s.reports.queue.length < 16 →
      exec (.unknownMessage h code p) s = .next { s with
        decoder := ⟨.outside, false, none, [], false, s.decoder.garbled⟩
        reports := { s.reports with queue := s.reports.queue ++ [⟨0x3F#6, h.tag, [word code.toNat, 1]⟩] } }) ∧
    (Addressed h s → p.length ≤ 64 → 16 ≤ s.reports.queue.length →
      exec (.unknownMessage h code p) s = .next { s with
        decoder := ⟨.outside, false, none, [], false, s.decoder.garbled⟩
        reports := { s.reports with lost := satInc 65535 s.reports.lost }
        notices := { s.notices with causes := s.notices.causes ||| 0x020#12 } }) ∧
    (s.pins.held = false → h.unit ≠ s.pins.unit.setWidth 3 → h.unit ≠ 7#3 →
      exec (.unknownMessage h code p) s =
        .next (s.withDecoder ⟨.discard, false, none, [], false, s.decoder.garbled⟩))

/-! ## Messages by chapter -/

/-- Set Lane and Set Carousel (R43, R50 to R54): a lane entry is replaced whole, or the write is refused IN_USE for a lane
of the active plan; the carousel is replaced, and a seat whose language is no member takes the default language. -/
def Obligations.ProgrammeMapIsWritten : Prop :=
  ∀ (h : MsgHead) (s : State), Addressed h s →
    (∀ (lane : Fin 12) (kind : LaneKind) (tag trim silence : Nat), trim ≤ 32767 → silence ≤ 15 →
      (if kind = .commentary ∨ kind = .announce then 1 ≤ tag ∧ tag ≤ 63 else tag = 0) →
      let lanes := setAt s.prog.lanes lane ⟨kind, tag, trim, silence⟩
      let message := payload [lane.val, laneKindCode kind, tag, trim, silence]
      (lane ∉ heldLanes s → countKind .announce lanes ≤ 4 → countKind .bed lanes ≤ 1 →
        exec (.setLane h message) s =
          .next (reply h 0x01#6 .accepted [] ((decoderIdle s).withProg ⟨lanes, s.prog.carousel⟩))) ∧
      (lane ∈ heldLanes s →
        exec (.setLane h message) s = .next (reply h 0x01#6 .inUse [] (decoderIdle s)))) ∧
    ∀ tags : List Nat, tags.length ≤ 12 → tags.Nodup → (∀ t ∈ tags, 1 ≤ t ∧ t ≤ 63) →
      exec (.setCarousel h (payload (tags.length :: tags))) s =
        .next (reply h 0x02#6 .accepted [] (((decoderIdle s).withProg ⟨s.prog.lanes, tags⟩).withSeats
          ⟨Vector.ofFn fun i : Fin 65 =>
            (let r := s.seats.records[i]
            { r with language := if r.language.any (fun t => tags.contains t) then r.language else tags.head? }),
            s.seats.paSource⟩))

/-- The read messages (R29, R30, R38, R39, R55, R73, R92, R123, R161, R178, R190) are always answered, with the read data
in a Reply of at most 40 words, each word as its table lays it down, and change nothing else; but Read Status with its
option bit sets the six counters to 0 after their values are taken (R18, R39). -/
def Obligations.ReadsAreAnsweredAndChangeNothing : Prop :=
  ∀ (h : MsgHead) (s : State), Addressed h s →
    let reads (c : Instr) (code n : Nat) (holds : List Word → Prop) : Prop := ∃ data : List Word, data.length = n ∧
      exec c s = .next (offerReport ⟨0x3F#6, h.tag, word code :: 0 :: data⟩ (decoderIdle s)) ∧ holds data
    let next : Nat := ((s.route.stops.find? fun x => (x.lap == .pending || x.lap == .approached) &&
      decide (s.route.estimate ≤ (x.metre + x.radius) * 100)).map (·.number)).getD 0
    let status : List Word := [
      word s.counters.badFrames, word s.counters.sequenceGaps, word s.counters.repeatSlips, word s.counters.dropSlips,
      word s.decoder.garbled, word s.reports.lost, word (lockCode s.trunk.rx.lock), word (healthCode s.dog.health),
      word (sessionCode s.route.session), word (positionCode s.route.status), word (s.route.estimate / 65536),
      word (s.route.estimate % 65536), word s.route.laps, word next, word (((activeEntry s).map (·.ticket)).getD 0),
      word s.mixer.audio.duckDepth, word s.mixer.audio.attack, word s.mixer.audio.release,
      word s.mixer.audio.headsetCeiling, word s.mixer.audio.paCeiling, word s.mixer.audio.announceFloor,
      word s.mixer.audio.defaultStep, word s.mixer.duck, if s.pins.profile = .strict then 0 else 1,
      word s.pins.unit.toNat]
    reads (.readLanes h []) 0x03 32 (fun d =>
      (∀ i : Fin 12,
        d[2 * i.val]? = some (word (laneKindCode s.prog.lanes[i].kind + s.prog.lanes[i].tag * 4
          + s.prog.lanes[i].silence * 256 + s.meter.lanes[i].level * 4096)) ∧
        d[2 * i.val + 1]? = some (word (s.prog.lanes[i].trim + bitNat s.meter.lanes[i].quiet * 32768))) ∧
      (∃ w, d[24]? = some w ∧
        ∀ k : Fin 16, w.getLsbD k.val = true ↔ ∃ i : Fin 12, i.val = k.val ∧ i ∈ heldLanes s) ∧
      d[25]? = some (word s.prog.carousel.length) ∧
      ∀ k : Fin 6, d[26 + k.val]? =
        some (word (s.prog.carousel.getD (2 * k.val) 0 + s.prog.carousel.getD (2 * k.val + 1) 0 * 256))) ∧
    (∀ i : Fin 4, reads (.readLine h (payload [i.val])) 0x0C 28 (fun d =>
      let l := s.lines[i]
      d.take 3 = [word (bitNat l.enabled + l.pollPos.val * 2), word (l.openThreshold + l.shortThreshold * 256),
        word l.debounce] ∧
      (∃ w, d[3]? = some w ∧ ∀ b : Fin 8, (w.extractLsb' (2 * b.val) 2).toNat = reachCode l.boxes[b].reach) ∧
      (∀ b : Fin 8, d[4 + b.val]? = some (word (l.boxes[b].missRun + l.boxes[b].goodRun * 256))) ∧
      ∀ k : Fin 16, d[12 + k.val]? = some (word (classCode l.jacks[k].confirmed
        + classCode l.jacks[k].candidate * 4 + l.jacks[k].level * 256)))) ∧
    (∀ i : Fin 65, reads (.readSeat h (payload [i.val])) 0x0A 8 (fun d =>
      let r := s.seats.records[i]
      let line := s.lines[seatLine i]
      d = [
        word (seatStateCode (seatState s i) + bitNat r.enabled * 8 + bitNat r.languageLock * 16
          + bitNat r.volumeLock * 32 + (if i = 64 then paSourceCode s.seats.paSource * 64 else 0)),
        word (r.language.getD 0 + languageIndex s.prog r.language * 256),
        word ((r.sounding.map Fin.val).getD 0 + bitNat r.sounding.isSome * 16 + phaseCode r.phase * 32),
        word r.fade, word r.step, word s.mixer.volumes[i], word r.holdoff,
        if i = 64 then 0
        else word (classCode line.jacks[seatPlace i].confirmed + reachCode line.boxes[seatBox i].reach * 4)])) ∧
    (∀ first n, first + n ≤ s.route.stops.length → n ≤ 7 → first ≤ 120 →
      reads (.readStops h (payload [first, n])) 0x1A (2 + 5 * n) (fun d =>
        d = [word s.route.stops.length, word next] ++ ((s.route.stops.drop first).take n).flatMap fun st =>
          [word st.number, word st.metre, word st.approach, word st.radius,
            word (bitNat st.approachFlag + bitNat st.arrivalFlag * 2 + st.priority * 4 + policyCode st.policy * 16
              + st.count * 64 + lapCode st.lap * 512)])) ∧
    reads (.readQueue h []) 0x25 30 (fun d =>
      d.take 2 = [word (s.ann.queue.length + s.ann.ticket * 256),
        word (match s.ann.chime with
          | none => 0
          | some c => 1 + c.slot.val * 2)] ∧
      (∀ k : Fin 6, (d.drop (2 + 4 * k.val)).take 4 = (match s.ann.queue[k.val]? with
        | none => [0, 0, 0, 0]
        | some e => [
          word (entryKindCode e.kind + entryStateCode e.state * 4 + e.priority * 16 + policyCode e.policy * 64
            + e.count * 256 + bitNat e.clipStarted * 2048 + bitNat e.heard * 4096),
          word e.subject, word (e.ticket + (e.reason.map reasonCode).getD 0 * 256),
          word (match e.notBefore with
            | none => 0
            | some n => n - s.now)])) ∧
      ∀ k : Fin 4, d[26 + k.val]? = some (match (((activeEntry s).bind (·.plan)).getD [])[k.val]? with
        | none => 0
        | some q => word (q.language + q.lane.val * 256))) ∧
    reads (.readZones h []) 0x2C 37 (fun d =>
      (∀ i : Fin 16,
        let z := s.lights.zones[i]
        d[i.val]? = some (word (z.current + (match z.overlay with
          | some v => 1024 + v.pattern.val * 2048
          | none => if z.current = targetOf s.dog.health s.lights.floor z.base then 0 else 8192))) ∧
        d[16 + i.val]? = some (word z.base)) ∧
      (d.drop 32).take 3 = [word (match s.lights.current with
        | none => 0
        | some n => n.val + 16), word s.lights.floor, word s.lights.release] ∧
      (∃ w, d[35]? = some w ∧
        ∀ k : Fin 16, w.getLsbD k.val = true ↔ ∃ n : Fin 4, n.val = k.val ∧ s.lights.patterns[n] ≠ none) ∧
      ∃ w, d[36]? = some w ∧ ∀ k : Fin 16, w.getLsbD k.val = true ↔ s.lights.scenes[k] ≠ []) ∧
    (∀ first n, first + n ≤ 32 → n ≤ 4 → first ≤ 31 →
      reads (.readCues h (payload [first, n])) 0x33 (7 + 7 * n) (fun d =>
        let a := s.cues.ambient
        d.take 6 = [
          word (bandCode a.confirmed + bandCode a.candidate * 8 + bitNat a.smoothed.isSome * 64),
          word (a.smoothed.getD 0 + a.last * 256), word a.run, word a.invalidRun, word (a.t1 + a.t2 * 256),
          word (a.t3 + a.dwell * 256)] ∧
        (∃ w, d[6]? = some w ∧
          ∀ k : Fin 16, w.getLsbD k.val = (s.cues.table[k.castLE (by decide : 16 ≤ 32)]).enabled) ∧
        d.drop 7 = ((s.cues.table.toList.drop first).take n).flatMap fun c =>
          [word (bitNat c.enabled + triggerCode c.trigger * 16 + (actionWords c.action).1 * 256 + c.mask.toNat * 4096),
            word c.param, word c.threshold] ++ (actionWords c.action).2)) ∧
    (∀ view, view ≤ 2 → reads (.readNotices h (payload [view])) 0x3A 2 (fun d =>
      d = [word view, (if view = 0 then s.notices.causes else if view = 1 then s.notices.enables
        else s.notices.causes &&& s.notices.enables).setWidth 16])) ∧
    reads (.readStatus h 0 []) 0x38 25 (fun d => d = status) ∧
    (s.reports.queue.length < 16 →
      ∃ t, exec (.readStatusClear h 0 []) s = .next t ∧
        t = { s with
          decoder := ⟨.outside, false, none, [], false, 0⟩, counters := ⟨0, 0, 0, 0⟩
          reports := ⟨s.reports.queue ++ [⟨0x3F#6, h.tag, 0x38 :: 0 :: status⟩], 0⟩ })

/-- Set Seat Line and Set Audio (R70, R71, R74, R107, R108): the settings are replaced together; a line that is disabled
forgets its boxes, seats and pending poll. -/
def Obligations.LineAndAudioSettingsAreReplaced : Prop :=
  ∀ (h : MsgHead) (s : State), Addressed h s →
    (∀ (i : Fin 4) (enable : Bool) (openT shortT debounce : Nat), shortT < openT → openT ≤ 255 → 1 ≤ debounce →
      debounce ≤ 255 →
      exec (.setSeatLine h (payload [i.val, bitNat enable, openT, shortT, debounce])) s =
        .next (reply h 0x0B#6 .accepted [] ((decoderIdle s).withLines (setAt s.lines i
          (if enable = true then
            { s.lines[i] with enabled := true, openThreshold := openT, shortThreshold := shortT, debounce := debounce }
          else ⟨false, openT, shortT, debounce, 0, none, Vector.replicate 8 ⟨.unknown, 0, 0⟩,
            Vector.replicate 16 ⟨none, none, 0, 0⟩⟩))))) ∧
    ∀ depth attack release headset pa floor step : Nat, depth ≤ 8 → 1 ≤ attack → attack ≤ 2048 → 1 ≤ release →
      release ≤ 2048 → 1 ≤ headset → headset ≤ 15 → 1 ≤ pa → pa ≤ 15 → floor ≤ 15 → step ≤ 15 →
      exec (.setAudio h (payload [depth, attack, release, headset, pa, floor, step])) s =
        .next (reply h 0x10#6 .accepted [] ((decoderIdle s).withMixer
          { s.mixer with audio := ⟨depth, attack, release, headset, pa, floor, step⟩ }))

/-- Set Seat and Set Seat Range (R27, R88 to R91): every selected field of the named records takes its value, the others are
kept, whatever the words of fields not selected hold, and under LENIENT whatever the reserved bits of the mask and of the
selected words hold; a selected language is a member of the carousel, or NONE while the carousel is empty; the PA source is
written where record 64 is among them. -/
def Obligations.SeatWritesWriteTheSelectedFields : Prop :=
  ∀ (h : MsgHead) (s : State) (first last : Fin 65) (mask enable language volume locks source : Word),
    Addressed h s → first ≤ last →
    let e := mask.getLsbD 0
    let l := mask.getLsbD 1
    let v := mask.getLsbD 2
    let k := mask.getLsbD 3
    let p := mask.getLsbD 4
    (s.pins.profile = .strict →
      mask.toNat < 32 ∧ (e = true → enable.toNat < 2) ∧ (k = true → locks.toNat < 4)) →
    (l = true → language.toNat ∈ s.prog.carousel ∧ 1 ≤ language.toNat ∧ language.toNat ≤ 63 ∨
      language = 0 ∧ s.prog.carousel = []) →
    (v = true → volume.toNat ≤ 15) → (p = true → source.toNat ≤ 2 ∧ last = 64) →
    let fields := [mask, enable, language, volume, locks, source]
    let written (r : SeatRecord) : SeatRecord := { r with
      enabled := if e = true then enable.getLsbD 0 else r.enabled
      language := if l = true then (if language = 0 then none else some language.toNat) else r.language
      step := if v = true then volume.toNat else r.step
      languageLock := if k = true then locks.getLsbD 0 else r.languageLock
      volumeLock := if k = true then locks.getLsbD 1 else r.volumeLock }
    let after := (decoderIdle s).withSeats
      ⟨Vector.ofFn fun i : Fin 65 => if first ≤ i ∧ i ≤ last then written s.seats.records[i] else s.seats.records[i],
        if p = false then s.seats.paSource
        else if source = 0 then .off else if source = 1 then .commentary else .announceOnly⟩
    exec (.setSeatRange h (word first.val :: word last.val :: fields)) s = .next (reply h 0x09#6 .accepted [] after) ∧
    (first = last →
      exec (.setSeat h (word first.val :: fields)) s = .next (reply h 0x08#6 .accepted [] after))

/-- Set Route and Write Stops (R111, R112, R120 to R122): in IDLE with no stop entry queued the route is written and begins
clean with an empty table; a run of stops in order and without repeats is put in its place, PENDING. -/
def Obligations.RouteAndStopsAreWritten : Prop :=
  ∀ (h : MsgHead) (s : State), Addressed h s →
    (∀ (length tolerance halt : Nat) (loop : Bool), 100 ≤ length → length ≤ 65535 → tolerance ≤ 1000 → halt ≤ 2500 →
      s.route.session = .idle → (∀ e ∈ s.ann.queue, e.kind = .general) →
      exec (.setRoute h (payload [length, bitNat loop, tolerance, halt])) s =
        .next (reply h 0x18#6 .accepted [] ((decoderIdle s).withRoute
          ⟨length, loop, tolerance, halt, 0, 0, 0, 0, .invalid, false, 0, [], .idle⟩))) ∧
    ∀ (first : Nat) (run : List Stop), run ≠ [] → run.length ≤ 8 → first ≤ s.route.stops.length →
      first + run.length ≤ 120 → s.route.length ≤ 65535 → (∀ st ∈ run, StopOk s.route.length st) →
      (∀ e ∈ s.ann.queue, e.kind = .general) →
      let stops := s.route.stops.take first ++ run ++ s.route.stops.drop (first + run.length)
      (stops.map (·.metre)).Pairwise (· < ·) → (stops.map (·.number)).Nodup →
      exec (.writeStops h (payload (first :: run.length :: run.flatMap stopPayload))) s =
        .next (reply h 0x19#6 .accepted [] ((decoderIdle s).withRoute { s.route with stops := stops }))

/-- Position (R114 to R116, R124), in every session: an invalid one makes the status INVALID and the speed 0; a valid one
is a first fix, a small correction, a forward move, a lap wrap or a reseek, the stops of a wrap or a reseek return to
PENDING with their WAITING entries removed, and the status is FRESH. In RUNNING the stops are then evaluated in table
order. The Reply follows, and then the cue that the whole event completes, which is read from the rules
(notes/assumptions/2.md, 16.md). -/
def Obligations.PositionIsPlaced : Prop :=
  ∀ (h : MsgHead) (s : State) (cm v : Nat), Addressed h s → cm < 16777216 → v < 4096 →
    let r := s.route
    let n := min cm (r.length * 100)
    let wraps : Bool := r.seeded && r.loop && decide (n + r.length * 50 < r.estimate)
    let reseeks : Bool := r.seeded && !wraps && decide (n + r.tolerance * 100 < r.estimate)
    let back (st : Stop) : Bool := wraps || (reseeks && decide (n + st.radius * 100 < st.metre * 100))
    let p : State := { decoderIdle s with
      route := { r with
        estimate := n, remainder := 0, speed := min v 2500, age := 0, status := .fresh, seeded := true
        laps := if wraps = true then satInc 65535 r.laps else r.laps
        stops := r.stops.map fun st => if back st = true then { st with lap := .pending } else st }
      ann := { s.ann with queue := s.ann.queue.filter fun e =>
        !(e.state == .waiting && e.kind != .general && ((r.stops.filter back).map (·.number)).contains e.subject) } }
    let answered (u : State) : State := tryCue (reply h 0x1B#6 .accepted [] u)
    exec (.positionInvalid h (word (cm / 65536)) (word (cm % 65536)) (BitVec.ofNat 15 v) []) s =
      .next (answered ((decoderIdle s).withRoute { r with status := .invalid, speed := 0 })) ∧
    exec (.positionFix h (word (cm / 65536)) (word (cm % 65536)) (BitVec.ofNat 15 v) []) s =
      .next (answered (if r.session = .running then evaluated p else p)) ∧
    (r.session ≠ .running → ∃ t,
      exec (.positionFix h (word (cm / 65536)) (word (cm % 65536)) (BitVec.ofNat 15 v) []) s = .next t ∧
      t.route = p.route)

/-- Tour START, PAUSE, RESUME and END (R87, R131 to R134): the session and the route as each leaves them; START gives every
record the default language and step on its lane; START and END abort a CUED or PLAYING entry with reason TOUR and remove
every WAITING one; PAUSE removes the WAITING entries of stops; RESUME evaluates the stops in table order where the position
is trusted. START and RESUME raise TOUR with 1, PAUSE with 2, and END, but from IDLE, with 0. The Reply follows, and then
the cue that the whole event completes, which is read from the rules (notes/assumptions/2.md, 16.md). PAUSE and RESUME are
refused STATE elsewhere. -/
def Obligations.TourActionsChangeTheSession : Prop :=
  ∀ (h : MsgHead) (s : State), Addressed h s →
    let b := decoderIdle s
    let answered (u : State) : State := tryCue (reply h 0x1C#6 .accepted [] u)
    let cleared (u : State) : State :=
      if announceState s = some .cued ∨ announceState s = some .playing then
        (offerReport ⟨0x35#6, 0, [word (((activeEntry s).map (·.ticket)).getD 0), 8]⟩ u).withAnn { s.ann with
          queue := (s.ann.queue.filter fun e => e.state != .waiting).map fun e =>
            { e with state := .trailing, reason := some .tour }
          chime := none }
      else u.withAnn { s.ann with queue := s.ann.queue.filter fun e => e.state != .waiting }
    (∃ t, exec (.tourStart h []) s = .next t ∧
      t = answered (raise ⟨.tour, 1⟩ ((cleared (b.withRoute t.route)).withSeats ⟨Vector.ofFn fun i : Fin 65 =>
        { s.seats.records[i] with
          language := s.prog.carousel.head?, step := s.mixer.audio.defaultStep
          sounding := commentaryLane s.prog s.prog.carousel.head?, phase := .steady, fade := 32767 },
        s.seats.paSource⟩)) ∧
      t.route = { s.route with
        stops := s.route.stops.map fun st => { st with lap := .pending }
        laps := 0, status := .invalid, speed := 0, age := 0, remainder := 0, seeded := false, session := .running } ∧
      ∀ i : Fin 65, t.seats.records[i] = { s.seats.records[i] with
        language := s.prog.carousel.head?, step := s.mixer.audio.defaultStep
        sounding := commentaryLane s.prog s.prog.carousel.head?, phase := .steady, fade := 32767 }) ∧
    (s.route.session = .running →
      ∃ t, exec (.tourPause h []) s = .next t ∧ t.route = { s.route with session := .layover } ∧
        t = answered (raise ⟨.tour, 2⟩ ((b.withRoute t.route).withAnn { s.ann with
          queue := s.ann.queue.filter fun e => !(e.state == .waiting && e.kind != .general) }))) ∧
    (s.route.session = .layover →
      let p := b.withRoute { s.route with session := .running }
      exec (.tourResume h []) s = .next (answered (raise ⟨.tour, 1⟩
        (if s.route.status = .fresh ∨ s.route.status = .deadReckoned then evaluated p else p)))) ∧
    (s.route.session = .layover → s.route.status = .invalid ∨ s.route.status = .stale →
      ∃ t, exec (.tourResume h []) s = .next t ∧ t.route = { s.route with session := .running }) ∧
    (∃ t, exec (.tourEnd h []) s = .next t ∧ t.route = { s.route with session := .idle } ∧
      t.seats.records = s.seats.records ∧
      t = answered (let u := cleared (b.withRoute t.route)
        if s.route.session = .idle then u else raise ⟨.tour, 0⟩ u)) ∧
    (s.route.session ≠ .running → exec (.tourPause h []) s = .next (reply h 0x1C#6 .state [] (decoderIdle s))) ∧
    (s.route.session ≠ .layover → exec (.tourResume h []) s = .next (reply h 0x1C#6 .state [] (decoderIdle s)))

/-- Clip End (R145): a ticket outside 1 to 255 is refused RANGE; the PLAYING entry of the ticket goes to TRAILING with
CLIP_END and no report but the Reply; in every other case it is refused STATE and changes nothing. -/
def Obligations.ClipEndEndsThePlayingEntryOrIsRefused : Prop :=
  ∀ (h : MsgHead) (s : State) (n : Nat), Addressed h s → n ≤ 65535 →
    (n = 0 ∨ 255 < n → exec (.clipEnd h (payload [n])) s = .next (reply h 0x22#6 .range [] (decoderIdle s))) ∧
    (1 ≤ n → n ≤ 255 →
      (∀ e, activeEntry s = some e → e.state = .playing → e.ticket = n →
        ∃ t, exec (.clipEnd h (payload [n])) s = .next t ∧
          activeEntry t = some { e with state := .trailing, reason := some .clipEnd } ∧
          t.reports = (reply h 0x22#6 .accepted [] (decoderIdle s)).reports ∧ t.ann.chime = none ∧
          t.ann.queue.length = s.ann.queue.length) ∧
      ((∀ e, activeEntry s = some e → ¬(e.state = .playing ∧ e.ticket = n)) →
        exec (.clipEnd h (payload [n])) s = .next (reply h 0x22#6 .state [] (decoderIdle s))))

/-- Announce, Clip Start and Cancel (R137 to R139, R144, R149, R151, R159). An Announce that repeats a phrase of the queue
is refused DUPLICATE; otherwise its entry joins in queue order, in a full queue only where a WAITING entry of lower
priority is evicted for it, and is dropped where none is, with a Dropped report. An urgent entry that joins preempts a CUED
or PLAYING one of lower priority: its Abort, its return to WAITING where its stop allows, its chime stopped, and the
urgent entry cued with its joining, before the Reply; without that the cue follows the Reply. The two cues' places, and
that the preempted entry keeps its place in the queue, are read from the rules (notes/assumptions/2.md, 16.md, 22.md). A
Clip Start under a sounding chime marks the CUED entry, and otherwise makes it PLAYING, which raises ANNOUNCE_PLAYING; one
that comes a second time is refused STATE, one too late or for another ticket as well, with an Abort STALE before the
Reply, and a ticket out of range is refused RANGE. A Cancel is accepted whatever it matches: a CUED or PLAYING entry goes to
TRAILING with CANCELLED and an Abort before the Reply, a WAITING one is removed without a report, a TRAILING one is left;
by TICKET it matches the active entry, by ENTRY the one entry of the kind and subject, and by ALL every entry. -/
def Obligations.AnnouncementMessagesActOnTheQueue : Prop :=
  ∀ (h : MsgHead) (s : State), Addressed h s →
    (∀ (phrase priority count : Nat) (policy : RepeatPolicy), 1 ≤ phrase → phrase ≤ 255 → priority ≤ 3 → count ≤ 7 →
      let message := Instr.announce h (payload [phrase, priority, policyCode policy, count])
      let new := offered .general phrase priority policy count s.now
      let repeated : Prop := ∃ e ∈ s.ann.queue, e.kind = .general ∧ e.subject = phrase
      let joins (u : State) : Prop :=
        ((∀ a, activeEntry s = some a → (a.state = .cued ∨ a.state = .playing) → a.priority < 3 → s.dog.health = .ok →
            priority < 3) →
          exec message s = .next (tryCue (reply h 0x20#6 .accepted [] (setQueue (insertEntry new u.ann.queue) u)))) ∧
        ∀ a, activeEntry s = some a → (a.state = .cued ∨ a.state = .playing) → a.priority < 3 → s.dog.health = .ok →
          priority = 3 → QuietCues s →
          let queue := (insertEntry new u.ann.queue).map fun f =>
            if f.state = .waiting then f else { waitingAgain f with notBefore := none }
          let preempts (q : List Entry) : Prop := exec message s = .next (reply h 0x20#6 .accepted []
            (cueEntry new ((offerReport ⟨0x35#6, 0, [word a.ticket, 9]⟩ u).withAnn
              { u.ann with queue := q, chime := none })).1)
          (MayReturn s.route a → preempts queue) ∧
          (¬MayReturn s.route a → preempts (queue.filter fun f => !(f.kind == a.kind && f.subject == a.subject)))
      (repeated → exec message s = .next (reply h 0x20#6 .duplicate [] (decoderIdle s))) ∧
      (¬repeated → s.ann.queue.length < 6 → joins (decoderIdle s)) ∧
      (¬repeated → QueueSound s → ∀ (q1 q2 : List Entry) (v : Entry), s.ann.queue = q1 ++ v :: q2 →
        s.ann.queue.length = 6 → v.state = .waiting → v.priority < priority →
        (∀ f ∈ q1, f.state = .waiting → v.priority ≤ f.priority) →
        (∀ f ∈ q2, f.state = .waiting → v.priority < f.priority) →
        joins (setQueue (q1 ++ q2)
          (offerReport ⟨0x37#6, 0, [word (entryKindCode v.kind), word v.subject]⟩ (decoderIdle s)))) ∧
      (¬repeated → 6 ≤ s.ann.queue.length → (∀ f ∈ s.ann.queue, f.state = .waiting → priority ≤ f.priority) →
        exec message s = .next (tryCue (reply h 0x20#6 .accepted []
          (offerReport ⟨0x37#6, 0, [2, word phrase]⟩ (decoderIdle s)))))) ∧
    (∀ e : Entry, activeEntry s = some e → 1 ≤ e.ticket → e.ticket ≤ 255 →
      (e.state = .cued → e.clipStarted = false → s.ann.chime ≠ none →
        ∃ t, exec (.clipStart h (payload [e.ticket])) s = .next t ∧ activeEntry t = some { e with clipStarted := true } ∧
          t.ann.chime = s.ann.chime) ∧
      (e.state = .cued → e.clipStarted = false → s.ann.chime = none → e.plan.getD [] ≠ [] →
        (QuietCues s →
          ∃ t, exec (.clipStart h (payload [e.ticket])) s = .next t ∧ t.ann.playTimer = 0 ∧ t.ann.silenceRun = 0 ∧
            activeEntry t = some { e with clipStarted := true, state := .playing }) ∧
        ∀ (j : Fin 32) (pa : PaSource), OneCue j .announcePlaying 0 (.paSource pa) s →
          ∃ t, exec (.clipStart h (payload [e.ticket])) s = .next t ∧ t.seats.paSource = pa)) ∧
    (∀ n : Nat, n ≤ 65535 →
      let answered (r : Result) (u : State) : Prop := exec (.clipStart h (payload [n])) s = .next (reply h 0x21#6 r [] u)
      let stale : Prop := answered .state (offerReport ⟨0x35#6, 0, [word n, 10]⟩ (decoderIdle s))
      (n = 0 ∨ 255 < n → answered .range (decoderIdle s)) ∧
      (1 ≤ n → n ≤ 255 →
        (activeEntry s = none → stale) ∧
        ∀ e : Entry, activeEntry s = some e →
          (e.ticket ≠ n ∨ e.state = .trailing → stale) ∧
          (e.ticket = n → e.state = .playing ∨ e.state = .cued ∧ e.clipStarted = true →
            answered .state (decoderIdle s)))) ∧
    let accepted (c : Instr) (u : State) : Prop := exec c s = .next (tryCue (reply h 0x23#6 .accepted [] u))
    let aborts (c : Instr) (e : Entry) (q : List Entry) : Prop := ∃ t, exec c s = .next t ∧
      activeEntry t = some { e with state := .trailing, reason := some .cancelled } ∧ t.ann.chime = none ∧
      t.ann.queue = (q.map fun f =>
        if f.state = .waiting then f else { f with state := .trailing, reason := some .cancelled }) ∧
      t.reports = (reply h 0x23#6 .accepted [] (offerReport ⟨0x35#6, 0, [word e.ticket, 7]⟩ s)).reports
    (∀ (n : Nat) (x : Word), 1 ≤ n → n ≤ 255 →
      let cancel := Instr.cancelTicket h [word n, x]
      ((∀ e, activeEntry s = some e → e.ticket = n → e.state = .trailing) → accepted cancel (decoderIdle s)) ∧
      ∀ e, activeEntry s = some e → e.state ≠ .trailing → e.ticket = n → aborts cancel e s.ann.queue) ∧
    (∀ (kind : EntryKind) (n : Nat), 1 ≤ n → n ≤ (if kind = .general then 255 else 999) →
      let cancel := Instr.cancelEntry h (payload [entryKindCode kind, n])
      ((∀ f ∈ s.ann.queue, ¬(f.kind = kind ∧ f.subject = n)) → accepted cancel (decoderIdle s)) ∧
      ∀ (q1 q2 : List Entry) (f : Entry), QueueSound s → s.ann.queue = q1 ++ f :: q2 → f.kind = kind → f.subject = n →
        (f.state = .waiting → accepted cancel (setQueue (q1 ++ q2) (decoderIdle s))) ∧
        (f.state = .trailing → accepted cancel (decoderIdle s)) ∧
        (f.state = .cued ∨ f.state = .playing → aborts cancel f s.ann.queue)) ∧
    ∀ x y : Word,
      let cancel := Instr.cancelAll h [x, y]
      let rest := s.ann.queue.filter fun f => f.state != .waiting
      ((∀ e, activeEntry s = some e → e.state = .trailing) → accepted cancel (setQueue rest (decoderIdle s))) ∧
      ∀ e, activeEntry s = some e → e.state ≠ .trailing → aborts cancel e rest

/-- Set Chime, Set Announce, Set Zones and Set Ambient (R155, R157, R160, R176, R183): the settings are replaced together.
Where Set Zones changes a zone's effective target while it has no overlay, the zone takes a release step with the new
settings. -/
def Obligations.SettingsAreReplacedTogether : Prop :=
  ∀ (h : MsgHead) (s : State), Addressed h s →
    (∀ (slot : Fin 4) (notes : List Note), notes.length ≤ 4 →
      (∀ n ∈ notes, 4 ≤ n.divider ∧ n.divider ≤ 64 ∧ 20 ≤ n.duration ∧ n.duration ≤ 1000 ∧ n.level ≤ 32767) →
      exec (.setChime h (payload (slot.val :: notes.length ::
          notes.flatMap fun n => [n.divider, n.duration, n.level]))) s =
        .next (reply h 0x24#6 .accepted [] ((decoderIdle s).withAnn
          { s.ann with slots := setAt s.ann.slots slot notes }))) ∧
    (∀ (timeout hold gap : Nat) (halt : Bool), 500 ≤ timeout → timeout ≤ 8000 → 100 ≤ hold → hold ≤ 2000 → gap ≤ 10000 →
      exec (.setAnnounce h (payload [timeout, hold, gap, bitNat halt])) s =
        .next (reply h 0x26#6 .accepted [] ((decoderIdle s).withAnn
          { s.ann with cueTimeout := timeout, silenceHold := hold, replayGap := gap, haltUse := halt }))) ∧
    (∀ floor release : Nat, floor ≤ 1023 → release ≤ 10000 →
      exec (.setZones h (payload [floor, release])) s =
        .next (reply h 0x2B#6 .accepted [] ((decoderIdle s).withLights { s.lights with
          floor := floor, release := release
          zones := Vector.ofFn fun i : Fin 16 =>
            (let z := s.lights.zones[i]
            let target := targetOf s.dog.health floor z.base
            if z.overlay = none ∧ targetOf s.dog.health s.lights.floor z.base ≠ target then
              { z with fadeStep := stepTo release target z.current }
            else z) }))) ∧
    (∀ floor release : Nat, floor ≤ 1023 → release ≤ 10000 → s.dog.health = .ok →
      exec (.setZones h (payload [floor, release])) s =
        .next (reply h 0x2B#6 .accepted [] ((decoderIdle s).withLights
          { s.lights with floor := floor, release := release }))) ∧
    ∀ t1 t2 t3 dwell : Nat, t1 < t2 → t2 < t3 → t3 ≤ 255 → 1 ≤ dwell → dwell ≤ 60 →
      exec (.setAmbient h (payload [t1, t2, t3, dwell])) s =
        .next (reply h 0x32#6 .accepted [] ((decoderIdle s).withCues { s.cues with
          ambient := { s.cues.ambient with t1 := t1, t2 := t2, t3 := t3, dwell := dwell } }))

/-- Scenes, patterns and cues are written as given (R174, R175, R188): the message written from an entry's fields stores
exactly that entry. -/
def Obligations.ScenesPatternsAndCuesAreWrittenAsGiven : Prop :=
  ∀ (h : MsgHead) (s : State), Addressed h s →
    (∀ (n : Fin 16) (items : List SceneItem), items.length ≤ 8 → (∀ it ∈ items, it.level ≤ 1023 ∧ it.fade ≤ 10000) →
      exec (.setScene h (payload (n.val :: items.length ::
          items.flatMap fun it => [it.range.first.val + 256 * it.range.last.val, it.level, it.fade]))) s =
        .next (reply h 0x28#6 .accepted [] ((decoderIdle s).withLights
          { s.lights with scenes := setAt s.lights.scenes n items }))) ∧
    (∀ (n : Fin 4) (p : Pattern), 1 ≤ p.length → p.length ≤ 64 → p.cycles ≤ 255 →
      exec (.setPattern h [word n.val, p.mask, word p.length, word p.cycles]) s =
        .next (reply h 0x29#6 .accepted [] ((decoderIdle s).withLights
          { s.lights with patterns := setAt s.lights.patterns n (some p) }))) ∧
    ∀ (i : Fin 32) (c : Cue), CueOk c →
      exec (.setCue h (cuePayload i c)) s =
        .next (reply h 0x30#6 .accepted [] ((decoderIdle s).withCues
          { s.cues with table := setAt s.cues.table i c }))

/-- Scenes and the cue unit's scan (R164, R167 to R170, R184 to R187, R189). A zone takes the level of the last item of an
applied scene that covers it and the step that reaches its effective target in the item's fade; zones that no item covers
are kept. A raised trigger acts through an enabled cue of its kind whose parameter is its value or any, where the ambient
light stands in one of the relations of the cue's mask, UNORDERED while the band is INVALID; through several, in index
order; and a trigger that an action's effects raise is scanned afterwards. Each action, by a Marker whose one enabled cue
does it. A Marker that no enabled cue matches has no effect of its own; after its Reply, as after every Marker's, the cue
of an entry that may go follows where one is due, which is read from the rules (notes/assumptions/2.md), as is the order of
the second scans (notes/assumptions/14.md). -/
def Obligations.SceneIsAppliedByMessageAndByMarker : Prop :=
  (∀ (h : MsgHead) (s : State) (n : Fin 16), Addressed h s →
    let lit (t : State) : Prop := t.lights.current = some n ∧ ∀ i : Fin 16,
      ((s.lights.scenes[n].filter fun it => inRange it.range i) = [] → t.lights.zones[i] = s.lights.zones[i]) ∧
      ∀ it, (s.lights.scenes[n].filter fun it => inRange it.range i).getLast? = some it →
        t.lights.zones[i] = { s.lights.zones[i] with
          base := it.level
          fadeStep := stepTo it.fade (targetOf s.dog.health s.lights.floor it.level) s.lights.zones[i].current }
    (s.lights.scenes[n] = [] →
      exec (.applyScene h (payload [n.val])) s = .next (reply h 0x2A#6 .accepted [] (decoderIdle s))) ∧
    (s.lights.scenes[n] ≠ [] → ∃ t, exec (.applyScene h (payload [n.val])) s = .next t ∧ lit t) ∧
    ∀ (m : Nat) (j : Fin 32), m ≤ 255 → OneCue j .marker m (.scene n) s → activeEntry s ≠ none →
      (s.lights.scenes[n] ≠ [] → ∃ t, exec (.marker h (payload [m])) s = .next t ∧ lit t) ∧
      (s.lights.scenes[n] = [] →
        exec (.marker h (payload [m])) s = .next (reply h 0x31#6 .accepted [] (decoderIdle s)))) ∧
  (∀ (h : MsgHead) (s : State) (m : Nat), Addressed h s → m ≤ 255 →
    let b := decoderIdle s
    let audio := s.mixer.audio
    let marked (u : State) : Prop :=
      exec (.marker h (payload [m])) s = .next (tryCue (reply h 0x31#6 .accepted [] u))
    let zones (f : Fin 16 → Zone → Zone) : State :=
      b.withLights { s.lights with zones := Vector.ofFn fun i => f i s.lights.zones[i] }
    let sets (a : AudioSettings) : State := b.withMixer { s.mixer with audio := a }
    ((∀ i : Fin 32, s.cues.table[i].enabled = true →
      ¬(s.cues.table[i].trigger = .marker ∧ s.cues.table[i].param = m)) → marked b) ∧
    (∀ (j : Fin 32) (r : ZoneRange) (k : Fin 4) (on off : Nat), OneCue j .marker m (.overlay r k on off) s →
      (s.lights.patterns[k] = none → marked b) ∧
      ∀ pat, s.lights.patterns[k] = some pat → marked (zones fun i z =>
        if inRange r i = true then { z with overlay := some ⟨k, on, off, 0, 0, pat.cycles⟩ } else z)) ∧
    (∀ (j : Fin 32) (r : ZoneRange), OneCue j .marker m (.clear r) s → marked (zones fun i z =>
      if inRange r i = true ∧ z.overlay ≠ none then { z with
        overlay := none
        fadeStep := stepTo s.lights.release (targetOf s.dog.health s.lights.floor z.base) z.current }
      else z)) ∧
    (∀ (j : Fin 32) (k : Nat),
      (OneCue j .marker m (.headsetCeiling k) s → marked (sets { audio with headsetCeiling := k })) ∧
      (OneCue j .marker m (.paCeiling k) s → marked (sets { audio with paCeiling := k })) ∧
      (OneCue j .marker m (.duckDepth k) s → marked (sets { audio with duckDepth := k }))) ∧
    (∀ (j : Fin 32) (q : PaSource), OneCue j .marker m (.paSource q) s →
      marked (b.withSeats ⟨s.seats.records, q⟩)) ∧
    (∀ (j : Fin 32) (phrase priority count : Nat) (policy : RepeatPolicy),
      OneCue j .marker m (.announce phrase priority policy count) s →
      marked (offerEntry (offered .general phrase priority policy count s.now) b).1) ∧
    (∀ i j : Fin 32, i < j → ∀ d1 d2 : Nat, s.cues.table[i] = ⟨true, .marker, m, 0xF#4, 0, .duckDepth d1⟩ →
      s.cues.table[j] = ⟨true, .marker, m, 0xF#4, 0, .duckDepth d2⟩ →
      (∀ k : Fin 32, k ≠ i → k ≠ j → s.cues.table[k].enabled = false) → marked (sets { audio with duckDepth := d2 })) ∧
    ∀ (i j : Fin 32) (phrase count k : Nat) (policy : RepeatPolicy) (q : PaSource) (a : Entry),
      s.cues.table[i] = ⟨true, .marker, m, 0xF#4, 0, .announce phrase 3 policy count⟩ →
      s.cues.table[j] = ⟨true, .announceCued, k, 0xF#4, 0, .paSource q⟩ → k = 2 ∨ k = 3 →
      (∀ l : Fin 32, l ≠ i → l ≠ j → s.cues.table[l].enabled = false) →
      activeEntry s = some a → (a.state = .cued ∨ a.state = .playing) → a.priority < 3 → s.dog.health = .ok →
      s.ann.queue.length < 6 → (∀ f ∈ s.ann.queue, ¬(f.kind = .general ∧ f.subject = phrase)) →
      ∃ t, exec (.marker h (payload [m])) s = .next t ∧ t.seats.paSource = q) ∧
  ∀ (s : State) (x : Trigger) (j : Fin 32) (k : TriggerKind) (param threshold : Nat) (mask : BitVec 4) (q : PaSource),
    s.cues.table[j] = ⟨true, k, param, mask, threshold, .paSource q⟩ →
    (∀ i : Fin 32, i ≠ j → s.cues.table[i].enabled = false) →
    let light := s.cues.ambient.smoothed.getD 0
    let related : Prop :=
      if s.cues.ambient.confirmed = none then mask.getLsbD 3 = true
      else if light < threshold then mask.getLsbD 0 = true
      else if light = threshold then mask.getLsbD 1 = true else mask.getLsbD 2 = true
    let matched : Prop := k = x.kind ∧
      (param = x.value ∨ k = .announceCued ∧ param = 3 ∨ (k = .stopApproach ∨ k = .stopArrived) ∧ param = 0)
    (matched ∧ related → raise x s = s.withSeats ⟨s.seats.records, q⟩) ∧
    (¬(matched ∧ related) → raise x s = s)

/-- Set Notices, Clear Notices and Set Profile (R37, R38, R40). -/
def Obligations.NoticesAndProfileAreSet : Prop :=
  ∀ (h : MsgHead) (s : State) (mask : BitVec 12), Addressed h s →
    exec (.setNotices h [mask.setWidth 16]) s =
      .next (reply h 0x39#6 .accepted [] ((decoderIdle s).withNotices ⟨s.notices.causes, mask⟩)) ∧
    exec (.clearNotices h [mask.setWidth 16]) s =
      .next (reply h 0x3B#6 .accepted [] ((decoderIdle s).withNotices
        ⟨s.notices.causes &&& ~~~mask, s.notices.enables⟩)) ∧
    exec (.setProfile h [0]) s =
      .next (reply h 0x3C#6 .accepted [] ((decoderIdle s).withPins { s.pins with profile := .strict })) ∧
    exec (.setProfile h [1]) s =
      .next (reply h 0x3C#6 .accepted [] ((decoderIdle s).withPins { s.pins with profile := .lenient })) ∧
    ∀ n, 2 ≤ n → n ≤ 65535 →
      exec (.setProfile h (payload [n])) s = .next (reply h 0x3C#6 .range [] (decoderIdle s))

/-- Restart (R19, R31, R41, R42, R44, R47, R74, R93, R110, R135, R162, R179, R191): the runtime state of every block takes
its Restart values, tables and settings are kept, and the Reply is the only report in the queue. A standing overlay ends, and
its zone takes the release step from its current level to its effective target; the other zones stand. That the local time
is kept (notes/assumptions/8.md), and that the cue timer, the play timer and the silence run go to 0
(notes/assumptions/10.md), is the model's choice: the manual gives them no Restart value. -/
def Obligations.RestartKeepsTablesAndSettings : Prop :=
  ∀ (h : MsgHead) (s : State), Addressed h s →
    ∃ t, exec (.restart h []) s = .next t ∧
      t = { s with
        counters := ⟨0, 0, 0, 0⟩, decoder := ⟨.outside, false, none, [], false, 0⟩
        reports := ⟨[⟨0x3F#6, h.tag, [0x3D, 0]⟩], 0⟩, notices := ⟨0, 0⟩
        lines := t.lines, seats := ⟨t.seats.records, s.seats.paSource⟩
        mixer := ⟨32767, t.mixer.volumes, s.mixer.audio⟩
        route := { s.route with
          stops := s.route.stops.map fun st => { st with lap := .pending }
          laps := 0, status := .invalid, speed := 0, age := 0, remainder := 0, seeded := false, session := .idle }
        ann := { s.ann with
          queue := [], ticket := 0, cueTimer := 0, playTimer := 0, silenceRun := 0, chime := none }
        lights := { s.lights with zones := t.lights.zones }
        cues := { s.cues with ambient :=
          ⟨0, none, none, 0, 0, none, s.cues.ambient.t1, s.cues.ambient.t2, s.cues.ambient.t3, s.cues.ambient.dwell⟩ } } ∧
      (∀ i : Fin 4, t.lines[i] = ⟨s.lines[i].enabled, s.lines[i].openThreshold, s.lines[i].shortThreshold,
        s.lines[i].debounce, 0, none, Vector.replicate 8 ⟨.unknown, 0, 0⟩, Vector.replicate 16 ⟨none, none, 0, 0⟩⟩) ∧
      (∀ i : Fin 65, t.seats.records[i] = { s.seats.records[i] with
        language := s.prog.carousel.head?, step := s.mixer.audio.defaultStep
        sounding := commentaryLane s.prog s.prog.carousel.head?, phase := .steady, fade := 32767, holdoff := 0 }) ∧
      (∀ i : Fin 65, t.mixer.volumes[i] = volumeGain (min s.mixer.audio.defaultStep
        (if i = 64 then s.mixer.audio.paCeiling else s.mixer.audio.headsetCeiling))) ∧
      ∀ i : Fin 16, t.lights.zones[i] =
        (let z := s.lights.zones[i]
        if z.overlay = none then z
        else { z with
          overlay := none
          fadeStep := stepTo s.lights.release (targetOf s.dog.health s.lights.floor z.base) z.current })

/-- The lane table and the carousel (R44, R47): after power-on, by the application of power as by the release of the reset
pin, every lane is UNUSED with tag 0, trim 32767 and silence level 4, the carousel is empty, there is no default language
and every seat's language is NONE; Restart keeps both as they stand, leaves no entry active and so releases every hold. -/
def Obligations.ProgrammeMapIsEmptyAtPowerOnAndKeptByRestart : Prop :=
  (∀ (c : Instr) (s : State), (∃ straps, c = .powerOn ⟨straps, true⟩) ∨ (∃ straps, c = .resetRelease straps) →
    ∃ t, exec c s = .next t ∧
      (∀ i : Fin 12, t.prog.lanes[i] = ⟨.unused, 0, 32767, 4⟩) ∧ t.prog.carousel = [] ∧
      defaultLanguage t.prog = none ∧ ∀ i : Fin 65, t.seats.records[i].language = none) ∧
  ∀ (h : MsgHead) (s : State), Addressed h s → ∃ t, exec (.restart h []) s = .next t ∧
    t.prog.lanes = s.prog.lanes ∧ t.prog.carousel = s.prog.carousel ∧ activeEntry t = none ∧ heldLanes t = []

/-! ## Invariants -/

/-- Every step keeps the bounds of the report queue and of the hold buffer (R31, R35). -/
def Obligations.QueuesOfTheReturnLinkStayBounded : Prop :=
  ∀ s t : State, step s = .next t →
    (ReportsBounded s → ReportsBounded t) ∧ (HoldBounded s → HoldBounded t)

/-- Every step keeps the elastic store within its four frames, and empty and not primed while health is LOST (R11, R13,
R14). -/
def Obligations.StoreStaysSound : Prop := ∀ s t : State, StoreSound s → step s = .next t → StoreSound t

/-- Every step keeps the announcement queue in queue order, by priority and then by entry time, at no more than six
entries, at most one active, no two of one kind and subject (R137). -/
def Obligations.AnnouncementQueueStaysSound : Prop := ∀ s t : State, QueueSound s → step s = .next t → QueueSound t

/-- Every step keeps the limits and the order of the lane table, the carousel and the stop table, and a disabled line at
rest (R43, R46, R57, R120). -/
def Obligations.TablesStaySound : Prop :=
  ∀ s t : State, step s = .next t →
    (ProgrammeSound s → ProgrammeSound t) ∧ (StopsSound s → StopsSound t) ∧ (LinesSound s → LinesSound t)

/-- Every step keeps the duck gain, the volume gains and the fade gains in 0 to 32767 (R84, R104, R106). -/
def Obligations.GainsStayInRange : Prop := ∀ s t : State, GainsSound s → step s = .next t → GainsSound t

/-- The reset state meets every invariant. -/
def Obligations.ResetMeetsEveryInvariant : Prop :=
  ReportsBounded State.reset ∧ HoldBounded State.reset ∧ StoreSound State.reset ∧ QueueSound State.reset ∧
    ProgrammeSound State.reset ∧ StopsSound State.reset ∧ LinesSound State.reset ∧ GainsSound State.reset ∧
    BoxRunsBounded State.reset
end

