-- ==== Sys2Proof/Laws/State.lean ====
section
/-! SUPPORT. What each update of a field leaves in each field: one lemma per field per update, true by rfl. -/

namespace Sys2Proof.Machine

@[simp] theorem State.withPending_pending (s : State) (x : List Instr) : (s.withPending x).pending = x := rfl
@[simp] theorem State.withPending_now (s : State) (x : List Instr) : (s.withPending x).now = s.now := rfl
@[simp] theorem State.withPending_pins (s : State) (x : List Instr) : (s.withPending x).pins = s.pins := rfl
@[simp] theorem State.withPending_out (s : State) (x : List Instr) : (s.withPending x).out = s.out := rfl
@[simp] theorem State.withPending_trunk (s : State) (x : List Instr) : (s.withPending x).trunk = s.trunk := rfl
@[simp] theorem State.withPending_dog (s : State) (x : List Instr) : (s.withPending x).dog = s.dog := rfl
@[simp] theorem State.withPending_store (s : State) (x : List Instr) : (s.withPending x).store = s.store := rfl
@[simp] theorem State.withPending_counters (s : State) (x : List Instr) : (s.withPending x).counters = s.counters := rfl
@[simp] theorem State.withPending_meter (s : State) (x : List Instr) : (s.withPending x).meter = s.meter := rfl
@[simp] theorem State.withPending_decoder (s : State) (x : List Instr) : (s.withPending x).decoder = s.decoder := rfl
@[simp] theorem State.withPending_reports (s : State) (x : List Instr) : (s.withPending x).reports = s.reports := rfl
@[simp] theorem State.withPending_notices (s : State) (x : List Instr) : (s.withPending x).notices = s.notices := rfl
@[simp] theorem State.withPending_ret (s : State) (x : List Instr) : (s.withPending x).ret = s.ret := rfl
@[simp] theorem State.withPending_tx (s : State) (x : List Instr) : (s.withPending x).tx = s.tx := rfl
@[simp] theorem State.withPending_prog (s : State) (x : List Instr) : (s.withPending x).prog = s.prog := rfl
@[simp] theorem State.withPending_lines (s : State) (x : List Instr) : (s.withPending x).lines = s.lines := rfl
@[simp] theorem State.withPending_seats (s : State) (x : List Instr) : (s.withPending x).seats = s.seats := rfl
@[simp] theorem State.withPending_mixer (s : State) (x : List Instr) : (s.withPending x).mixer = s.mixer := rfl
@[simp] theorem State.withPending_route (s : State) (x : List Instr) : (s.withPending x).route = s.route := rfl
@[simp] theorem State.withPending_ann (s : State) (x : List Instr) : (s.withPending x).ann = s.ann := rfl
@[simp] theorem State.withPending_lights (s : State) (x : List Instr) : (s.withPending x).lights = s.lights := rfl
@[simp] theorem State.withPending_cues (s : State) (x : List Instr) : (s.withPending x).cues = s.cues := rfl

@[simp] theorem State.withNow_pending (s : State) (x : Nat) : (s.withNow x).pending = s.pending := rfl
@[simp] theorem State.withNow_now (s : State) (x : Nat) : (s.withNow x).now = x := rfl
@[simp] theorem State.withNow_pins (s : State) (x : Nat) : (s.withNow x).pins = s.pins := rfl
@[simp] theorem State.withNow_out (s : State) (x : Nat) : (s.withNow x).out = s.out := rfl
@[simp] theorem State.withNow_trunk (s : State) (x : Nat) : (s.withNow x).trunk = s.trunk := rfl
@[simp] theorem State.withNow_dog (s : State) (x : Nat) : (s.withNow x).dog = s.dog := rfl
@[simp] theorem State.withNow_store (s : State) (x : Nat) : (s.withNow x).store = s.store := rfl
@[simp] theorem State.withNow_counters (s : State) (x : Nat) : (s.withNow x).counters = s.counters := rfl
@[simp] theorem State.withNow_meter (s : State) (x : Nat) : (s.withNow x).meter = s.meter := rfl
@[simp] theorem State.withNow_decoder (s : State) (x : Nat) : (s.withNow x).decoder = s.decoder := rfl
@[simp] theorem State.withNow_reports (s : State) (x : Nat) : (s.withNow x).reports = s.reports := rfl
@[simp] theorem State.withNow_notices (s : State) (x : Nat) : (s.withNow x).notices = s.notices := rfl
@[simp] theorem State.withNow_ret (s : State) (x : Nat) : (s.withNow x).ret = s.ret := rfl
@[simp] theorem State.withNow_tx (s : State) (x : Nat) : (s.withNow x).tx = s.tx := rfl
@[simp] theorem State.withNow_prog (s : State) (x : Nat) : (s.withNow x).prog = s.prog := rfl
@[simp] theorem State.withNow_lines (s : State) (x : Nat) : (s.withNow x).lines = s.lines := rfl
@[simp] theorem State.withNow_seats (s : State) (x : Nat) : (s.withNow x).seats = s.seats := rfl
@[simp] theorem State.withNow_mixer (s : State) (x : Nat) : (s.withNow x).mixer = s.mixer := rfl
@[simp] theorem State.withNow_route (s : State) (x : Nat) : (s.withNow x).route = s.route := rfl
@[simp] theorem State.withNow_ann (s : State) (x : Nat) : (s.withNow x).ann = s.ann := rfl
@[simp] theorem State.withNow_lights (s : State) (x : Nat) : (s.withNow x).lights = s.lights := rfl
@[simp] theorem State.withNow_cues (s : State) (x : Nat) : (s.withNow x).cues = s.cues := rfl

@[simp] theorem State.withPins_pending (s : State) (x : Pins) : (s.withPins x).pending = s.pending := rfl
@[simp] theorem State.withPins_now (s : State) (x : Pins) : (s.withPins x).now = s.now := rfl
@[simp] theorem State.withPins_pins (s : State) (x : Pins) : (s.withPins x).pins = x := rfl
@[simp] theorem State.withPins_out (s : State) (x : Pins) : (s.withPins x).out = s.out := rfl
@[simp] theorem State.withPins_trunk (s : State) (x : Pins) : (s.withPins x).trunk = s.trunk := rfl
@[simp] theorem State.withPins_dog (s : State) (x : Pins) : (s.withPins x).dog = s.dog := rfl
@[simp] theorem State.withPins_store (s : State) (x : Pins) : (s.withPins x).store = s.store := rfl
@[simp] theorem State.withPins_counters (s : State) (x : Pins) : (s.withPins x).counters = s.counters := rfl
@[simp] theorem State.withPins_meter (s : State) (x : Pins) : (s.withPins x).meter = s.meter := rfl
@[simp] theorem State.withPins_decoder (s : State) (x : Pins) : (s.withPins x).decoder = s.decoder := rfl
@[simp] theorem State.withPins_reports (s : State) (x : Pins) : (s.withPins x).reports = s.reports := rfl
@[simp] theorem State.withPins_notices (s : State) (x : Pins) : (s.withPins x).notices = s.notices := rfl
@[simp] theorem State.withPins_ret (s : State) (x : Pins) : (s.withPins x).ret = s.ret := rfl
@[simp] theorem State.withPins_tx (s : State) (x : Pins) : (s.withPins x).tx = s.tx := rfl
@[simp] theorem State.withPins_prog (s : State) (x : Pins) : (s.withPins x).prog = s.prog := rfl
@[simp] theorem State.withPins_lines (s : State) (x : Pins) : (s.withPins x).lines = s.lines := rfl
@[simp] theorem State.withPins_seats (s : State) (x : Pins) : (s.withPins x).seats = s.seats := rfl
@[simp] theorem State.withPins_mixer (s : State) (x : Pins) : (s.withPins x).mixer = s.mixer := rfl
@[simp] theorem State.withPins_route (s : State) (x : Pins) : (s.withPins x).route = s.route := rfl
@[simp] theorem State.withPins_ann (s : State) (x : Pins) : (s.withPins x).ann = s.ann := rfl
@[simp] theorem State.withPins_lights (s : State) (x : Pins) : (s.withPins x).lights = s.lights := rfl
@[simp] theorem State.withPins_cues (s : State) (x : Pins) : (s.withPins x).cues = s.cues := rfl

@[simp] theorem State.withOut_pending (s : State) (x : Outputs) : (s.withOut x).pending = s.pending := rfl
@[simp] theorem State.withOut_now (s : State) (x : Outputs) : (s.withOut x).now = s.now := rfl
@[simp] theorem State.withOut_pins (s : State) (x : Outputs) : (s.withOut x).pins = s.pins := rfl
@[simp] theorem State.withOut_out (s : State) (x : Outputs) : (s.withOut x).out = x := rfl
@[simp] theorem State.withOut_trunk (s : State) (x : Outputs) : (s.withOut x).trunk = s.trunk := rfl
@[simp] theorem State.withOut_dog (s : State) (x : Outputs) : (s.withOut x).dog = s.dog := rfl
@[simp] theorem State.withOut_store (s : State) (x : Outputs) : (s.withOut x).store = s.store := rfl
@[simp] theorem State.withOut_counters (s : State) (x : Outputs) : (s.withOut x).counters = s.counters := rfl
@[simp] theorem State.withOut_meter (s : State) (x : Outputs) : (s.withOut x).meter = s.meter := rfl
@[simp] theorem State.withOut_decoder (s : State) (x : Outputs) : (s.withOut x).decoder = s.decoder := rfl
@[simp] theorem State.withOut_reports (s : State) (x : Outputs) : (s.withOut x).reports = s.reports := rfl
@[simp] theorem State.withOut_notices (s : State) (x : Outputs) : (s.withOut x).notices = s.notices := rfl
@[simp] theorem State.withOut_ret (s : State) (x : Outputs) : (s.withOut x).ret = s.ret := rfl
@[simp] theorem State.withOut_tx (s : State) (x : Outputs) : (s.withOut x).tx = s.tx := rfl
@[simp] theorem State.withOut_prog (s : State) (x : Outputs) : (s.withOut x).prog = s.prog := rfl
@[simp] theorem State.withOut_lines (s : State) (x : Outputs) : (s.withOut x).lines = s.lines := rfl
@[simp] theorem State.withOut_seats (s : State) (x : Outputs) : (s.withOut x).seats = s.seats := rfl
@[simp] theorem State.withOut_mixer (s : State) (x : Outputs) : (s.withOut x).mixer = s.mixer := rfl
@[simp] theorem State.withOut_route (s : State) (x : Outputs) : (s.withOut x).route = s.route := rfl
@[simp] theorem State.withOut_ann (s : State) (x : Outputs) : (s.withOut x).ann = s.ann := rfl
@[simp] theorem State.withOut_lights (s : State) (x : Outputs) : (s.withOut x).lights = s.lights := rfl
@[simp] theorem State.withOut_cues (s : State) (x : Outputs) : (s.withOut x).cues = s.cues := rfl

@[simp] theorem State.withTrunk_pending (s : State) (x : TrunkRx) : (s.withTrunk x).pending = s.pending := rfl
@[simp] theorem State.withTrunk_now (s : State) (x : TrunkRx) : (s.withTrunk x).now = s.now := rfl
@[simp] theorem State.withTrunk_pins (s : State) (x : TrunkRx) : (s.withTrunk x).pins = s.pins := rfl
@[simp] theorem State.withTrunk_out (s : State) (x : TrunkRx) : (s.withTrunk x).out = s.out := rfl
@[simp] theorem State.withTrunk_trunk (s : State) (x : TrunkRx) : (s.withTrunk x).trunk = x := rfl
@[simp] theorem State.withTrunk_dog (s : State) (x : TrunkRx) : (s.withTrunk x).dog = s.dog := rfl
@[simp] theorem State.withTrunk_store (s : State) (x : TrunkRx) : (s.withTrunk x).store = s.store := rfl
@[simp] theorem State.withTrunk_counters (s : State) (x : TrunkRx) : (s.withTrunk x).counters = s.counters := rfl
@[simp] theorem State.withTrunk_meter (s : State) (x : TrunkRx) : (s.withTrunk x).meter = s.meter := rfl
@[simp] theorem State.withTrunk_decoder (s : State) (x : TrunkRx) : (s.withTrunk x).decoder = s.decoder := rfl
@[simp] theorem State.withTrunk_reports (s : State) (x : TrunkRx) : (s.withTrunk x).reports = s.reports := rfl
@[simp] theorem State.withTrunk_notices (s : State) (x : TrunkRx) : (s.withTrunk x).notices = s.notices := rfl
@[simp] theorem State.withTrunk_ret (s : State) (x : TrunkRx) : (s.withTrunk x).ret = s.ret := rfl
@[simp] theorem State.withTrunk_tx (s : State) (x : TrunkRx) : (s.withTrunk x).tx = s.tx := rfl
@[simp] theorem State.withTrunk_prog (s : State) (x : TrunkRx) : (s.withTrunk x).prog = s.prog := rfl
@[simp] theorem State.withTrunk_lines (s : State) (x : TrunkRx) : (s.withTrunk x).lines = s.lines := rfl
@[simp] theorem State.withTrunk_seats (s : State) (x : TrunkRx) : (s.withTrunk x).seats = s.seats := rfl
@[simp] theorem State.withTrunk_mixer (s : State) (x : TrunkRx) : (s.withTrunk x).mixer = s.mixer := rfl
@[simp] theorem State.withTrunk_route (s : State) (x : TrunkRx) : (s.withTrunk x).route = s.route := rfl
@[simp] theorem State.withTrunk_ann (s : State) (x : TrunkRx) : (s.withTrunk x).ann = s.ann := rfl
@[simp] theorem State.withTrunk_lights (s : State) (x : TrunkRx) : (s.withTrunk x).lights = s.lights := rfl
@[simp] theorem State.withTrunk_cues (s : State) (x : TrunkRx) : (s.withTrunk x).cues = s.cues := rfl

@[simp] theorem State.withDog_pending (s : State) (x : Watchdog) : (s.withDog x).pending = s.pending := rfl
@[simp] theorem State.withDog_now (s : State) (x : Watchdog) : (s.withDog x).now = s.now := rfl
@[simp] theorem State.withDog_pins (s : State) (x : Watchdog) : (s.withDog x).pins = s.pins := rfl
@[simp] theorem State.withDog_out (s : State) (x : Watchdog) : (s.withDog x).out = s.out := rfl
@[simp] theorem State.withDog_trunk (s : State) (x : Watchdog) : (s.withDog x).trunk = s.trunk := rfl
@[simp] theorem State.withDog_dog (s : State) (x : Watchdog) : (s.withDog x).dog = x := rfl
@[simp] theorem State.withDog_store (s : State) (x : Watchdog) : (s.withDog x).store = s.store := rfl
@[simp] theorem State.withDog_counters (s : State) (x : Watchdog) : (s.withDog x).counters = s.counters := rfl
@[simp] theorem State.withDog_meter (s : State) (x : Watchdog) : (s.withDog x).meter = s.meter := rfl
@[simp] theorem State.withDog_decoder (s : State) (x : Watchdog) : (s.withDog x).decoder = s.decoder := rfl
@[simp] theorem State.withDog_reports (s : State) (x : Watchdog) : (s.withDog x).reports = s.reports := rfl
@[simp] theorem State.withDog_notices (s : State) (x : Watchdog) : (s.withDog x).notices = s.notices := rfl
@[simp] theorem State.withDog_ret (s : State) (x : Watchdog) : (s.withDog x).ret = s.ret := rfl
@[simp] theorem State.withDog_tx (s : State) (x : Watchdog) : (s.withDog x).tx = s.tx := rfl
@[simp] theorem State.withDog_prog (s : State) (x : Watchdog) : (s.withDog x).prog = s.prog := rfl
@[simp] theorem State.withDog_lines (s : State) (x : Watchdog) : (s.withDog x).lines = s.lines := rfl
@[simp] theorem State.withDog_seats (s : State) (x : Watchdog) : (s.withDog x).seats = s.seats := rfl
@[simp] theorem State.withDog_mixer (s : State) (x : Watchdog) : (s.withDog x).mixer = s.mixer := rfl
@[simp] theorem State.withDog_route (s : State) (x : Watchdog) : (s.withDog x).route = s.route := rfl
@[simp] theorem State.withDog_ann (s : State) (x : Watchdog) : (s.withDog x).ann = s.ann := rfl
@[simp] theorem State.withDog_lights (s : State) (x : Watchdog) : (s.withDog x).lights = s.lights := rfl
@[simp] theorem State.withDog_cues (s : State) (x : Watchdog) : (s.withDog x).cues = s.cues := rfl

@[simp] theorem State.withStore_pending (s : State) (x : Store) : (s.withStore x).pending = s.pending := rfl
@[simp] theorem State.withStore_now (s : State) (x : Store) : (s.withStore x).now = s.now := rfl
@[simp] theorem State.withStore_pins (s : State) (x : Store) : (s.withStore x).pins = s.pins := rfl
@[simp] theorem State.withStore_out (s : State) (x : Store) : (s.withStore x).out = s.out := rfl
@[simp] theorem State.withStore_trunk (s : State) (x : Store) : (s.withStore x).trunk = s.trunk := rfl
@[simp] theorem State.withStore_dog (s : State) (x : Store) : (s.withStore x).dog = s.dog := rfl
@[simp] theorem State.withStore_store (s : State) (x : Store) : (s.withStore x).store = x := rfl
@[simp] theorem State.withStore_counters (s : State) (x : Store) : (s.withStore x).counters = s.counters := rfl
@[simp] theorem State.withStore_meter (s : State) (x : Store) : (s.withStore x).meter = s.meter := rfl
@[simp] theorem State.withStore_decoder (s : State) (x : Store) : (s.withStore x).decoder = s.decoder := rfl
@[simp] theorem State.withStore_reports (s : State) (x : Store) : (s.withStore x).reports = s.reports := rfl
@[simp] theorem State.withStore_notices (s : State) (x : Store) : (s.withStore x).notices = s.notices := rfl
@[simp] theorem State.withStore_ret (s : State) (x : Store) : (s.withStore x).ret = s.ret := rfl
@[simp] theorem State.withStore_tx (s : State) (x : Store) : (s.withStore x).tx = s.tx := rfl
@[simp] theorem State.withStore_prog (s : State) (x : Store) : (s.withStore x).prog = s.prog := rfl
@[simp] theorem State.withStore_lines (s : State) (x : Store) : (s.withStore x).lines = s.lines := rfl
@[simp] theorem State.withStore_seats (s : State) (x : Store) : (s.withStore x).seats = s.seats := rfl
@[simp] theorem State.withStore_mixer (s : State) (x : Store) : (s.withStore x).mixer = s.mixer := rfl
@[simp] theorem State.withStore_route (s : State) (x : Store) : (s.withStore x).route = s.route := rfl
@[simp] theorem State.withStore_ann (s : State) (x : Store) : (s.withStore x).ann = s.ann := rfl
@[simp] theorem State.withStore_lights (s : State) (x : Store) : (s.withStore x).lights = s.lights := rfl
@[simp] theorem State.withStore_cues (s : State) (x : Store) : (s.withStore x).cues = s.cues := rfl

@[simp] theorem State.withCounters_pending (s : State) (x : Counters) : (s.withCounters x).pending = s.pending := rfl
@[simp] theorem State.withCounters_now (s : State) (x : Counters) : (s.withCounters x).now = s.now := rfl
@[simp] theorem State.withCounters_pins (s : State) (x : Counters) : (s.withCounters x).pins = s.pins := rfl
@[simp] theorem State.withCounters_out (s : State) (x : Counters) : (s.withCounters x).out = s.out := rfl
@[simp] theorem State.withCounters_trunk (s : State) (x : Counters) : (s.withCounters x).trunk = s.trunk := rfl
@[simp] theorem State.withCounters_dog (s : State) (x : Counters) : (s.withCounters x).dog = s.dog := rfl
@[simp] theorem State.withCounters_store (s : State) (x : Counters) : (s.withCounters x).store = s.store := rfl
@[simp] theorem State.withCounters_counters (s : State) (x : Counters) : (s.withCounters x).counters = x := rfl
@[simp] theorem State.withCounters_meter (s : State) (x : Counters) : (s.withCounters x).meter = s.meter := rfl
@[simp] theorem State.withCounters_decoder (s : State) (x : Counters) : (s.withCounters x).decoder = s.decoder := rfl
@[simp] theorem State.withCounters_reports (s : State) (x : Counters) : (s.withCounters x).reports = s.reports := rfl
@[simp] theorem State.withCounters_notices (s : State) (x : Counters) : (s.withCounters x).notices = s.notices := rfl
@[simp] theorem State.withCounters_ret (s : State) (x : Counters) : (s.withCounters x).ret = s.ret := rfl
@[simp] theorem State.withCounters_tx (s : State) (x : Counters) : (s.withCounters x).tx = s.tx := rfl
@[simp] theorem State.withCounters_prog (s : State) (x : Counters) : (s.withCounters x).prog = s.prog := rfl
@[simp] theorem State.withCounters_lines (s : State) (x : Counters) : (s.withCounters x).lines = s.lines := rfl
@[simp] theorem State.withCounters_seats (s : State) (x : Counters) : (s.withCounters x).seats = s.seats := rfl
@[simp] theorem State.withCounters_mixer (s : State) (x : Counters) : (s.withCounters x).mixer = s.mixer := rfl
@[simp] theorem State.withCounters_route (s : State) (x : Counters) : (s.withCounters x).route = s.route := rfl
@[simp] theorem State.withCounters_ann (s : State) (x : Counters) : (s.withCounters x).ann = s.ann := rfl
@[simp] theorem State.withCounters_lights (s : State) (x : Counters) : (s.withCounters x).lights = s.lights := rfl
@[simp] theorem State.withCounters_cues (s : State) (x : Counters) : (s.withCounters x).cues = s.cues := rfl

@[simp] theorem State.withMeter_pending (s : State) (x : Meter) : (s.withMeter x).pending = s.pending := rfl
@[simp] theorem State.withMeter_now (s : State) (x : Meter) : (s.withMeter x).now = s.now := rfl
@[simp] theorem State.withMeter_pins (s : State) (x : Meter) : (s.withMeter x).pins = s.pins := rfl
@[simp] theorem State.withMeter_out (s : State) (x : Meter) : (s.withMeter x).out = s.out := rfl
@[simp] theorem State.withMeter_trunk (s : State) (x : Meter) : (s.withMeter x).trunk = s.trunk := rfl
@[simp] theorem State.withMeter_dog (s : State) (x : Meter) : (s.withMeter x).dog = s.dog := rfl
@[simp] theorem State.withMeter_store (s : State) (x : Meter) : (s.withMeter x).store = s.store := rfl
@[simp] theorem State.withMeter_counters (s : State) (x : Meter) : (s.withMeter x).counters = s.counters := rfl
@[simp] theorem State.withMeter_meter (s : State) (x : Meter) : (s.withMeter x).meter = x := rfl
@[simp] theorem State.withMeter_decoder (s : State) (x : Meter) : (s.withMeter x).decoder = s.decoder := rfl
@[simp] theorem State.withMeter_reports (s : State) (x : Meter) : (s.withMeter x).reports = s.reports := rfl
@[simp] theorem State.withMeter_notices (s : State) (x : Meter) : (s.withMeter x).notices = s.notices := rfl
@[simp] theorem State.withMeter_ret (s : State) (x : Meter) : (s.withMeter x).ret = s.ret := rfl
@[simp] theorem State.withMeter_tx (s : State) (x : Meter) : (s.withMeter x).tx = s.tx := rfl
@[simp] theorem State.withMeter_prog (s : State) (x : Meter) : (s.withMeter x).prog = s.prog := rfl
@[simp] theorem State.withMeter_lines (s : State) (x : Meter) : (s.withMeter x).lines = s.lines := rfl
@[simp] theorem State.withMeter_seats (s : State) (x : Meter) : (s.withMeter x).seats = s.seats := rfl
@[simp] theorem State.withMeter_mixer (s : State) (x : Meter) : (s.withMeter x).mixer = s.mixer := rfl
@[simp] theorem State.withMeter_route (s : State) (x : Meter) : (s.withMeter x).route = s.route := rfl
@[simp] theorem State.withMeter_ann (s : State) (x : Meter) : (s.withMeter x).ann = s.ann := rfl
@[simp] theorem State.withMeter_lights (s : State) (x : Meter) : (s.withMeter x).lights = s.lights := rfl
@[simp] theorem State.withMeter_cues (s : State) (x : Meter) : (s.withMeter x).cues = s.cues := rfl

@[simp] theorem State.withDecoder_pending (s : State) (x : Decoder) : (s.withDecoder x).pending = s.pending := rfl
@[simp] theorem State.withDecoder_now (s : State) (x : Decoder) : (s.withDecoder x).now = s.now := rfl
@[simp] theorem State.withDecoder_pins (s : State) (x : Decoder) : (s.withDecoder x).pins = s.pins := rfl
@[simp] theorem State.withDecoder_out (s : State) (x : Decoder) : (s.withDecoder x).out = s.out := rfl
@[simp] theorem State.withDecoder_trunk (s : State) (x : Decoder) : (s.withDecoder x).trunk = s.trunk := rfl
@[simp] theorem State.withDecoder_dog (s : State) (x : Decoder) : (s.withDecoder x).dog = s.dog := rfl
@[simp] theorem State.withDecoder_store (s : State) (x : Decoder) : (s.withDecoder x).store = s.store := rfl
@[simp] theorem State.withDecoder_counters (s : State) (x : Decoder) : (s.withDecoder x).counters = s.counters := rfl
@[simp] theorem State.withDecoder_meter (s : State) (x : Decoder) : (s.withDecoder x).meter = s.meter := rfl
@[simp] theorem State.withDecoder_decoder (s : State) (x : Decoder) : (s.withDecoder x).decoder = x := rfl
@[simp] theorem State.withDecoder_reports (s : State) (x : Decoder) : (s.withDecoder x).reports = s.reports := rfl
@[simp] theorem State.withDecoder_notices (s : State) (x : Decoder) : (s.withDecoder x).notices = s.notices := rfl
@[simp] theorem State.withDecoder_ret (s : State) (x : Decoder) : (s.withDecoder x).ret = s.ret := rfl
@[simp] theorem State.withDecoder_tx (s : State) (x : Decoder) : (s.withDecoder x).tx = s.tx := rfl
@[simp] theorem State.withDecoder_prog (s : State) (x : Decoder) : (s.withDecoder x).prog = s.prog := rfl
@[simp] theorem State.withDecoder_lines (s : State) (x : Decoder) : (s.withDecoder x).lines = s.lines := rfl
@[simp] theorem State.withDecoder_seats (s : State) (x : Decoder) : (s.withDecoder x).seats = s.seats := rfl
@[simp] theorem State.withDecoder_mixer (s : State) (x : Decoder) : (s.withDecoder x).mixer = s.mixer := rfl
@[simp] theorem State.withDecoder_route (s : State) (x : Decoder) : (s.withDecoder x).route = s.route := rfl
@[simp] theorem State.withDecoder_ann (s : State) (x : Decoder) : (s.withDecoder x).ann = s.ann := rfl
@[simp] theorem State.withDecoder_lights (s : State) (x : Decoder) : (s.withDecoder x).lights = s.lights := rfl
@[simp] theorem State.withDecoder_cues (s : State) (x : Decoder) : (s.withDecoder x).cues = s.cues := rfl

@[simp] theorem State.withReports_pending (s : State) (x : ReportQueue) : (s.withReports x).pending = s.pending := rfl
@[simp] theorem State.withReports_now (s : State) (x : ReportQueue) : (s.withReports x).now = s.now := rfl
@[simp] theorem State.withReports_pins (s : State) (x : ReportQueue) : (s.withReports x).pins = s.pins := rfl
@[simp] theorem State.withReports_out (s : State) (x : ReportQueue) : (s.withReports x).out = s.out := rfl
@[simp] theorem State.withReports_trunk (s : State) (x : ReportQueue) : (s.withReports x).trunk = s.trunk := rfl
@[simp] theorem State.withReports_dog (s : State) (x : ReportQueue) : (s.withReports x).dog = s.dog := rfl
@[simp] theorem State.withReports_store (s : State) (x : ReportQueue) : (s.withReports x).store = s.store := rfl
@[simp] theorem State.withReports_counters (s : State) (x : ReportQueue) : (s.withReports x).counters = s.counters := rfl
@[simp] theorem State.withReports_meter (s : State) (x : ReportQueue) : (s.withReports x).meter = s.meter := rfl
@[simp] theorem State.withReports_decoder (s : State) (x : ReportQueue) : (s.withReports x).decoder = s.decoder := rfl
@[simp] theorem State.withReports_reports (s : State) (x : ReportQueue) : (s.withReports x).reports = x := rfl
@[simp] theorem State.withReports_notices (s : State) (x : ReportQueue) : (s.withReports x).notices = s.notices := rfl
@[simp] theorem State.withReports_ret (s : State) (x : ReportQueue) : (s.withReports x).ret = s.ret := rfl
@[simp] theorem State.withReports_tx (s : State) (x : ReportQueue) : (s.withReports x).tx = s.tx := rfl
@[simp] theorem State.withReports_prog (s : State) (x : ReportQueue) : (s.withReports x).prog = s.prog := rfl
@[simp] theorem State.withReports_lines (s : State) (x : ReportQueue) : (s.withReports x).lines = s.lines := rfl
@[simp] theorem State.withReports_seats (s : State) (x : ReportQueue) : (s.withReports x).seats = s.seats := rfl
@[simp] theorem State.withReports_mixer (s : State) (x : ReportQueue) : (s.withReports x).mixer = s.mixer := rfl
@[simp] theorem State.withReports_route (s : State) (x : ReportQueue) : (s.withReports x).route = s.route := rfl
@[simp] theorem State.withReports_ann (s : State) (x : ReportQueue) : (s.withReports x).ann = s.ann := rfl
@[simp] theorem State.withReports_lights (s : State) (x : ReportQueue) : (s.withReports x).lights = s.lights := rfl
@[simp] theorem State.withReports_cues (s : State) (x : ReportQueue) : (s.withReports x).cues = s.cues := rfl

@[simp] theorem State.withNotices_pending (s : State) (x : Notices) : (s.withNotices x).pending = s.pending := rfl
@[simp] theorem State.withNotices_now (s : State) (x : Notices) : (s.withNotices x).now = s.now := rfl
@[simp] theorem State.withNotices_pins (s : State) (x : Notices) : (s.withNotices x).pins = s.pins := rfl
@[simp] theorem State.withNotices_out (s : State) (x : Notices) : (s.withNotices x).out = s.out := rfl
@[simp] theorem State.withNotices_trunk (s : State) (x : Notices) : (s.withNotices x).trunk = s.trunk := rfl
@[simp] theorem State.withNotices_dog (s : State) (x : Notices) : (s.withNotices x).dog = s.dog := rfl
@[simp] theorem State.withNotices_store (s : State) (x : Notices) : (s.withNotices x).store = s.store := rfl
@[simp] theorem State.withNotices_counters (s : State) (x : Notices) : (s.withNotices x).counters = s.counters := rfl
@[simp] theorem State.withNotices_meter (s : State) (x : Notices) : (s.withNotices x).meter = s.meter := rfl
@[simp] theorem State.withNotices_decoder (s : State) (x : Notices) : (s.withNotices x).decoder = s.decoder := rfl
@[simp] theorem State.withNotices_reports (s : State) (x : Notices) : (s.withNotices x).reports = s.reports := rfl
@[simp] theorem State.withNotices_notices (s : State) (x : Notices) : (s.withNotices x).notices = x := rfl
@[simp] theorem State.withNotices_ret (s : State) (x : Notices) : (s.withNotices x).ret = s.ret := rfl
@[simp] theorem State.withNotices_tx (s : State) (x : Notices) : (s.withNotices x).tx = s.tx := rfl
@[simp] theorem State.withNotices_prog (s : State) (x : Notices) : (s.withNotices x).prog = s.prog := rfl
@[simp] theorem State.withNotices_lines (s : State) (x : Notices) : (s.withNotices x).lines = s.lines := rfl
@[simp] theorem State.withNotices_seats (s : State) (x : Notices) : (s.withNotices x).seats = s.seats := rfl
@[simp] theorem State.withNotices_mixer (s : State) (x : Notices) : (s.withNotices x).mixer = s.mixer := rfl
@[simp] theorem State.withNotices_route (s : State) (x : Notices) : (s.withNotices x).route = s.route := rfl
@[simp] theorem State.withNotices_ann (s : State) (x : Notices) : (s.withNotices x).ann = s.ann := rfl
@[simp] theorem State.withNotices_lights (s : State) (x : Notices) : (s.withNotices x).lights = s.lights := rfl
@[simp] theorem State.withNotices_cues (s : State) (x : Notices) : (s.withNotices x).cues = s.cues := rfl

@[simp] theorem State.withRet_pending (s : State) (x : ReturnIn) : (s.withRet x).pending = s.pending := rfl
@[simp] theorem State.withRet_now (s : State) (x : ReturnIn) : (s.withRet x).now = s.now := rfl
@[simp] theorem State.withRet_pins (s : State) (x : ReturnIn) : (s.withRet x).pins = s.pins := rfl
@[simp] theorem State.withRet_out (s : State) (x : ReturnIn) : (s.withRet x).out = s.out := rfl
@[simp] theorem State.withRet_trunk (s : State) (x : ReturnIn) : (s.withRet x).trunk = s.trunk := rfl
@[simp] theorem State.withRet_dog (s : State) (x : ReturnIn) : (s.withRet x).dog = s.dog := rfl
@[simp] theorem State.withRet_store (s : State) (x : ReturnIn) : (s.withRet x).store = s.store := rfl
@[simp] theorem State.withRet_counters (s : State) (x : ReturnIn) : (s.withRet x).counters = s.counters := rfl
@[simp] theorem State.withRet_meter (s : State) (x : ReturnIn) : (s.withRet x).meter = s.meter := rfl
@[simp] theorem State.withRet_decoder (s : State) (x : ReturnIn) : (s.withRet x).decoder = s.decoder := rfl
@[simp] theorem State.withRet_reports (s : State) (x : ReturnIn) : (s.withRet x).reports = s.reports := rfl
@[simp] theorem State.withRet_notices (s : State) (x : ReturnIn) : (s.withRet x).notices = s.notices := rfl
@[simp] theorem State.withRet_ret (s : State) (x : ReturnIn) : (s.withRet x).ret = x := rfl
@[simp] theorem State.withRet_tx (s : State) (x : ReturnIn) : (s.withRet x).tx = s.tx := rfl
@[simp] theorem State.withRet_prog (s : State) (x : ReturnIn) : (s.withRet x).prog = s.prog := rfl
@[simp] theorem State.withRet_lines (s : State) (x : ReturnIn) : (s.withRet x).lines = s.lines := rfl
@[simp] theorem State.withRet_seats (s : State) (x : ReturnIn) : (s.withRet x).seats = s.seats := rfl
@[simp] theorem State.withRet_mixer (s : State) (x : ReturnIn) : (s.withRet x).mixer = s.mixer := rfl
@[simp] theorem State.withRet_route (s : State) (x : ReturnIn) : (s.withRet x).route = s.route := rfl
@[simp] theorem State.withRet_ann (s : State) (x : ReturnIn) : (s.withRet x).ann = s.ann := rfl
@[simp] theorem State.withRet_lights (s : State) (x : ReturnIn) : (s.withRet x).lights = s.lights := rfl
@[simp] theorem State.withRet_cues (s : State) (x : ReturnIn) : (s.withRet x).cues = s.cues := rfl

@[simp] theorem State.withTx_pending (s : State) (x : Transmitter) : (s.withTx x).pending = s.pending := rfl
@[simp] theorem State.withTx_now (s : State) (x : Transmitter) : (s.withTx x).now = s.now := rfl
@[simp] theorem State.withTx_pins (s : State) (x : Transmitter) : (s.withTx x).pins = s.pins := rfl
@[simp] theorem State.withTx_out (s : State) (x : Transmitter) : (s.withTx x).out = s.out := rfl
@[simp] theorem State.withTx_trunk (s : State) (x : Transmitter) : (s.withTx x).trunk = s.trunk := rfl
@[simp] theorem State.withTx_dog (s : State) (x : Transmitter) : (s.withTx x).dog = s.dog := rfl
@[simp] theorem State.withTx_store (s : State) (x : Transmitter) : (s.withTx x).store = s.store := rfl
@[simp] theorem State.withTx_counters (s : State) (x : Transmitter) : (s.withTx x).counters = s.counters := rfl
@[simp] theorem State.withTx_meter (s : State) (x : Transmitter) : (s.withTx x).meter = s.meter := rfl
@[simp] theorem State.withTx_decoder (s : State) (x : Transmitter) : (s.withTx x).decoder = s.decoder := rfl
@[simp] theorem State.withTx_reports (s : State) (x : Transmitter) : (s.withTx x).reports = s.reports := rfl
@[simp] theorem State.withTx_notices (s : State) (x : Transmitter) : (s.withTx x).notices = s.notices := rfl
@[simp] theorem State.withTx_ret (s : State) (x : Transmitter) : (s.withTx x).ret = s.ret := rfl
@[simp] theorem State.withTx_tx (s : State) (x : Transmitter) : (s.withTx x).tx = x := rfl
@[simp] theorem State.withTx_prog (s : State) (x : Transmitter) : (s.withTx x).prog = s.prog := rfl
@[simp] theorem State.withTx_lines (s : State) (x : Transmitter) : (s.withTx x).lines = s.lines := rfl
@[simp] theorem State.withTx_seats (s : State) (x : Transmitter) : (s.withTx x).seats = s.seats := rfl
@[simp] theorem State.withTx_mixer (s : State) (x : Transmitter) : (s.withTx x).mixer = s.mixer := rfl
@[simp] theorem State.withTx_route (s : State) (x : Transmitter) : (s.withTx x).route = s.route := rfl
@[simp] theorem State.withTx_ann (s : State) (x : Transmitter) : (s.withTx x).ann = s.ann := rfl
@[simp] theorem State.withTx_lights (s : State) (x : Transmitter) : (s.withTx x).lights = s.lights := rfl
@[simp] theorem State.withTx_cues (s : State) (x : Transmitter) : (s.withTx x).cues = s.cues := rfl

@[simp] theorem State.withProg_pending (s : State) (x : Programme) : (s.withProg x).pending = s.pending := rfl
@[simp] theorem State.withProg_now (s : State) (x : Programme) : (s.withProg x).now = s.now := rfl
@[simp] theorem State.withProg_pins (s : State) (x : Programme) : (s.withProg x).pins = s.pins := rfl
@[simp] theorem State.withProg_out (s : State) (x : Programme) : (s.withProg x).out = s.out := rfl
@[simp] theorem State.withProg_trunk (s : State) (x : Programme) : (s.withProg x).trunk = s.trunk := rfl
@[simp] theorem State.withProg_dog (s : State) (x : Programme) : (s.withProg x).dog = s.dog := rfl
@[simp] theorem State.withProg_store (s : State) (x : Programme) : (s.withProg x).store = s.store := rfl
@[simp] theorem State.withProg_counters (s : State) (x : Programme) : (s.withProg x).counters = s.counters := rfl
@[simp] theorem State.withProg_meter (s : State) (x : Programme) : (s.withProg x).meter = s.meter := rfl
@[simp] theorem State.withProg_decoder (s : State) (x : Programme) : (s.withProg x).decoder = s.decoder := rfl
@[simp] theorem State.withProg_reports (s : State) (x : Programme) : (s.withProg x).reports = s.reports := rfl
@[simp] theorem State.withProg_notices (s : State) (x : Programme) : (s.withProg x).notices = s.notices := rfl
@[simp] theorem State.withProg_ret (s : State) (x : Programme) : (s.withProg x).ret = s.ret := rfl
@[simp] theorem State.withProg_tx (s : State) (x : Programme) : (s.withProg x).tx = s.tx := rfl
@[simp] theorem State.withProg_prog (s : State) (x : Programme) : (s.withProg x).prog = x := rfl
@[simp] theorem State.withProg_lines (s : State) (x : Programme) : (s.withProg x).lines = s.lines := rfl
@[simp] theorem State.withProg_seats (s : State) (x : Programme) : (s.withProg x).seats = s.seats := rfl
@[simp] theorem State.withProg_mixer (s : State) (x : Programme) : (s.withProg x).mixer = s.mixer := rfl
@[simp] theorem State.withProg_route (s : State) (x : Programme) : (s.withProg x).route = s.route := rfl
@[simp] theorem State.withProg_ann (s : State) (x : Programme) : (s.withProg x).ann = s.ann := rfl
@[simp] theorem State.withProg_lights (s : State) (x : Programme) : (s.withProg x).lights = s.lights := rfl
@[simp] theorem State.withProg_cues (s : State) (x : Programme) : (s.withProg x).cues = s.cues := rfl

@[simp] theorem State.withLines_pending (s : State) (x : Vector SeatLine 4) : (s.withLines x).pending = s.pending := rfl
@[simp] theorem State.withLines_now (s : State) (x : Vector SeatLine 4) : (s.withLines x).now = s.now := rfl
@[simp] theorem State.withLines_pins (s : State) (x : Vector SeatLine 4) : (s.withLines x).pins = s.pins := rfl
@[simp] theorem State.withLines_out (s : State) (x : Vector SeatLine 4) : (s.withLines x).out = s.out := rfl
@[simp] theorem State.withLines_trunk (s : State) (x : Vector SeatLine 4) : (s.withLines x).trunk = s.trunk := rfl
@[simp] theorem State.withLines_dog (s : State) (x : Vector SeatLine 4) : (s.withLines x).dog = s.dog := rfl
@[simp] theorem State.withLines_store (s : State) (x : Vector SeatLine 4) : (s.withLines x).store = s.store := rfl
@[simp] theorem State.withLines_counters (s : State) (x : Vector SeatLine 4) : (s.withLines x).counters = s.counters := rfl
@[simp] theorem State.withLines_meter (s : State) (x : Vector SeatLine 4) : (s.withLines x).meter = s.meter := rfl
@[simp] theorem State.withLines_decoder (s : State) (x : Vector SeatLine 4) : (s.withLines x).decoder = s.decoder := rfl
@[simp] theorem State.withLines_reports (s : State) (x : Vector SeatLine 4) : (s.withLines x).reports = s.reports := rfl
@[simp] theorem State.withLines_notices (s : State) (x : Vector SeatLine 4) : (s.withLines x).notices = s.notices := rfl
@[simp] theorem State.withLines_ret (s : State) (x : Vector SeatLine 4) : (s.withLines x).ret = s.ret := rfl
@[simp] theorem State.withLines_tx (s : State) (x : Vector SeatLine 4) : (s.withLines x).tx = s.tx := rfl
@[simp] theorem State.withLines_prog (s : State) (x : Vector SeatLine 4) : (s.withLines x).prog = s.prog := rfl
@[simp] theorem State.withLines_lines (s : State) (x : Vector SeatLine 4) : (s.withLines x).lines = x := rfl
@[simp] theorem State.withLines_seats (s : State) (x : Vector SeatLine 4) : (s.withLines x).seats = s.seats := rfl
@[simp] theorem State.withLines_mixer (s : State) (x : Vector SeatLine 4) : (s.withLines x).mixer = s.mixer := rfl
@[simp] theorem State.withLines_route (s : State) (x : Vector SeatLine 4) : (s.withLines x).route = s.route := rfl
@[simp] theorem State.withLines_ann (s : State) (x : Vector SeatLine 4) : (s.withLines x).ann = s.ann := rfl
@[simp] theorem State.withLines_lights (s : State) (x : Vector SeatLine 4) : (s.withLines x).lights = s.lights := rfl
@[simp] theorem State.withLines_cues (s : State) (x : Vector SeatLine 4) : (s.withLines x).cues = s.cues := rfl

@[simp] theorem State.withSeats_pending (s : State) (x : SeatTable) : (s.withSeats x).pending = s.pending := rfl
@[simp] theorem State.withSeats_now (s : State) (x : SeatTable) : (s.withSeats x).now = s.now := rfl
@[simp] theorem State.withSeats_pins (s : State) (x : SeatTable) : (s.withSeats x).pins = s.pins := rfl
@[simp] theorem State.withSeats_out (s : State) (x : SeatTable) : (s.withSeats x).out = s.out := rfl
@[simp] theorem State.withSeats_trunk (s : State) (x : SeatTable) : (s.withSeats x).trunk = s.trunk := rfl
@[simp] theorem State.withSeats_dog (s : State) (x : SeatTable) : (s.withSeats x).dog = s.dog := rfl
@[simp] theorem State.withSeats_store (s : State) (x : SeatTable) : (s.withSeats x).store = s.store := rfl
@[simp] theorem State.withSeats_counters (s : State) (x : SeatTable) : (s.withSeats x).counters = s.counters := rfl
@[simp] theorem State.withSeats_meter (s : State) (x : SeatTable) : (s.withSeats x).meter = s.meter := rfl
@[simp] theorem State.withSeats_decoder (s : State) (x : SeatTable) : (s.withSeats x).decoder = s.decoder := rfl
@[simp] theorem State.withSeats_reports (s : State) (x : SeatTable) : (s.withSeats x).reports = s.reports := rfl
@[simp] theorem State.withSeats_notices (s : State) (x : SeatTable) : (s.withSeats x).notices = s.notices := rfl
@[simp] theorem State.withSeats_ret (s : State) (x : SeatTable) : (s.withSeats x).ret = s.ret := rfl
@[simp] theorem State.withSeats_tx (s : State) (x : SeatTable) : (s.withSeats x).tx = s.tx := rfl
@[simp] theorem State.withSeats_prog (s : State) (x : SeatTable) : (s.withSeats x).prog = s.prog := rfl
@[simp] theorem State.withSeats_lines (s : State) (x : SeatTable) : (s.withSeats x).lines = s.lines := rfl
@[simp] theorem State.withSeats_seats (s : State) (x : SeatTable) : (s.withSeats x).seats = x := rfl
@[simp] theorem State.withSeats_mixer (s : State) (x : SeatTable) : (s.withSeats x).mixer = s.mixer := rfl
@[simp] theorem State.withSeats_route (s : State) (x : SeatTable) : (s.withSeats x).route = s.route := rfl
@[simp] theorem State.withSeats_ann (s : State) (x : SeatTable) : (s.withSeats x).ann = s.ann := rfl
@[simp] theorem State.withSeats_lights (s : State) (x : SeatTable) : (s.withSeats x).lights = s.lights := rfl
@[simp] theorem State.withSeats_cues (s : State) (x : SeatTable) : (s.withSeats x).cues = s.cues := rfl

@[simp] theorem State.withMixer_pending (s : State) (x : Mixer) : (s.withMixer x).pending = s.pending := rfl
@[simp] theorem State.withMixer_now (s : State) (x : Mixer) : (s.withMixer x).now = s.now := rfl
@[simp] theorem State.withMixer_pins (s : State) (x : Mixer) : (s.withMixer x).pins = s.pins := rfl
@[simp] theorem State.withMixer_out (s : State) (x : Mixer) : (s.withMixer x).out = s.out := rfl
@[simp] theorem State.withMixer_trunk (s : State) (x : Mixer) : (s.withMixer x).trunk = s.trunk := rfl
@[simp] theorem State.withMixer_dog (s : State) (x : Mixer) : (s.withMixer x).dog = s.dog := rfl
@[simp] theorem State.withMixer_store (s : State) (x : Mixer) : (s.withMixer x).store = s.store := rfl
@[simp] theorem State.withMixer_counters (s : State) (x : Mixer) : (s.withMixer x).counters = s.counters := rfl
@[simp] theorem State.withMixer_meter (s : State) (x : Mixer) : (s.withMixer x).meter = s.meter := rfl
@[simp] theorem State.withMixer_decoder (s : State) (x : Mixer) : (s.withMixer x).decoder = s.decoder := rfl
@[simp] theorem State.withMixer_reports (s : State) (x : Mixer) : (s.withMixer x).reports = s.reports := rfl
@[simp] theorem State.withMixer_notices (s : State) (x : Mixer) : (s.withMixer x).notices = s.notices := rfl
@[simp] theorem State.withMixer_ret (s : State) (x : Mixer) : (s.withMixer x).ret = s.ret := rfl
@[simp] theorem State.withMixer_tx (s : State) (x : Mixer) : (s.withMixer x).tx = s.tx := rfl
@[simp] theorem State.withMixer_prog (s : State) (x : Mixer) : (s.withMixer x).prog = s.prog := rfl
@[simp] theorem State.withMixer_lines (s : State) (x : Mixer) : (s.withMixer x).lines = s.lines := rfl
@[simp] theorem State.withMixer_seats (s : State) (x : Mixer) : (s.withMixer x).seats = s.seats := rfl
@[simp] theorem State.withMixer_mixer (s : State) (x : Mixer) : (s.withMixer x).mixer = x := rfl
@[simp] theorem State.withMixer_route (s : State) (x : Mixer) : (s.withMixer x).route = s.route := rfl
@[simp] theorem State.withMixer_ann (s : State) (x : Mixer) : (s.withMixer x).ann = s.ann := rfl
@[simp] theorem State.withMixer_lights (s : State) (x : Mixer) : (s.withMixer x).lights = s.lights := rfl
@[simp] theorem State.withMixer_cues (s : State) (x : Mixer) : (s.withMixer x).cues = s.cues := rfl

@[simp] theorem State.withRoute_pending (s : State) (x : Route) : (s.withRoute x).pending = s.pending := rfl
@[simp] theorem State.withRoute_now (s : State) (x : Route) : (s.withRoute x).now = s.now := rfl
@[simp] theorem State.withRoute_pins (s : State) (x : Route) : (s.withRoute x).pins = s.pins := rfl
@[simp] theorem State.withRoute_out (s : State) (x : Route) : (s.withRoute x).out = s.out := rfl
@[simp] theorem State.withRoute_trunk (s : State) (x : Route) : (s.withRoute x).trunk = s.trunk := rfl
@[simp] theorem State.withRoute_dog (s : State) (x : Route) : (s.withRoute x).dog = s.dog := rfl
@[simp] theorem State.withRoute_store (s : State) (x : Route) : (s.withRoute x).store = s.store := rfl
@[simp] theorem State.withRoute_counters (s : State) (x : Route) : (s.withRoute x).counters = s.counters := rfl
@[simp] theorem State.withRoute_meter (s : State) (x : Route) : (s.withRoute x).meter = s.meter := rfl
@[simp] theorem State.withRoute_decoder (s : State) (x : Route) : (s.withRoute x).decoder = s.decoder := rfl
@[simp] theorem State.withRoute_reports (s : State) (x : Route) : (s.withRoute x).reports = s.reports := rfl
@[simp] theorem State.withRoute_notices (s : State) (x : Route) : (s.withRoute x).notices = s.notices := rfl
@[simp] theorem State.withRoute_ret (s : State) (x : Route) : (s.withRoute x).ret = s.ret := rfl
@[simp] theorem State.withRoute_tx (s : State) (x : Route) : (s.withRoute x).tx = s.tx := rfl
@[simp] theorem State.withRoute_prog (s : State) (x : Route) : (s.withRoute x).prog = s.prog := rfl
@[simp] theorem State.withRoute_lines (s : State) (x : Route) : (s.withRoute x).lines = s.lines := rfl
@[simp] theorem State.withRoute_seats (s : State) (x : Route) : (s.withRoute x).seats = s.seats := rfl
@[simp] theorem State.withRoute_mixer (s : State) (x : Route) : (s.withRoute x).mixer = s.mixer := rfl
@[simp] theorem State.withRoute_route (s : State) (x : Route) : (s.withRoute x).route = x := rfl
@[simp] theorem State.withRoute_ann (s : State) (x : Route) : (s.withRoute x).ann = s.ann := rfl
@[simp] theorem State.withRoute_lights (s : State) (x : Route) : (s.withRoute x).lights = s.lights := rfl
@[simp] theorem State.withRoute_cues (s : State) (x : Route) : (s.withRoute x).cues = s.cues := rfl

@[simp] theorem State.withAnn_pending (s : State) (x : Announcer) : (s.withAnn x).pending = s.pending := rfl
@[simp] theorem State.withAnn_now (s : State) (x : Announcer) : (s.withAnn x).now = s.now := rfl
@[simp] theorem State.withAnn_pins (s : State) (x : Announcer) : (s.withAnn x).pins = s.pins := rfl
@[simp] theorem State.withAnn_out (s : State) (x : Announcer) : (s.withAnn x).out = s.out := rfl
@[simp] theorem State.withAnn_trunk (s : State) (x : Announcer) : (s.withAnn x).trunk = s.trunk := rfl
@[simp] theorem State.withAnn_dog (s : State) (x : Announcer) : (s.withAnn x).dog = s.dog := rfl
@[simp] theorem State.withAnn_store (s : State) (x : Announcer) : (s.withAnn x).store = s.store := rfl
@[simp] theorem State.withAnn_counters (s : State) (x : Announcer) : (s.withAnn x).counters = s.counters := rfl
@[simp] theorem State.withAnn_meter (s : State) (x : Announcer) : (s.withAnn x).meter = s.meter := rfl
@[simp] theorem State.withAnn_decoder (s : State) (x : Announcer) : (s.withAnn x).decoder = s.decoder := rfl
@[simp] theorem State.withAnn_reports (s : State) (x : Announcer) : (s.withAnn x).reports = s.reports := rfl
@[simp] theorem State.withAnn_notices (s : State) (x : Announcer) : (s.withAnn x).notices = s.notices := rfl
@[simp] theorem State.withAnn_ret (s : State) (x : Announcer) : (s.withAnn x).ret = s.ret := rfl
@[simp] theorem State.withAnn_tx (s : State) (x : Announcer) : (s.withAnn x).tx = s.tx := rfl
@[simp] theorem State.withAnn_prog (s : State) (x : Announcer) : (s.withAnn x).prog = s.prog := rfl
@[simp] theorem State.withAnn_lines (s : State) (x : Announcer) : (s.withAnn x).lines = s.lines := rfl
@[simp] theorem State.withAnn_seats (s : State) (x : Announcer) : (s.withAnn x).seats = s.seats := rfl
@[simp] theorem State.withAnn_mixer (s : State) (x : Announcer) : (s.withAnn x).mixer = s.mixer := rfl
@[simp] theorem State.withAnn_route (s : State) (x : Announcer) : (s.withAnn x).route = s.route := rfl
@[simp] theorem State.withAnn_ann (s : State) (x : Announcer) : (s.withAnn x).ann = x := rfl
@[simp] theorem State.withAnn_lights (s : State) (x : Announcer) : (s.withAnn x).lights = s.lights := rfl
@[simp] theorem State.withAnn_cues (s : State) (x : Announcer) : (s.withAnn x).cues = s.cues := rfl

@[simp] theorem State.withLights_pending (s : State) (x : Lights) : (s.withLights x).pending = s.pending := rfl
@[simp] theorem State.withLights_now (s : State) (x : Lights) : (s.withLights x).now = s.now := rfl
@[simp] theorem State.withLights_pins (s : State) (x : Lights) : (s.withLights x).pins = s.pins := rfl
@[simp] theorem State.withLights_out (s : State) (x : Lights) : (s.withLights x).out = s.out := rfl
@[simp] theorem State.withLights_trunk (s : State) (x : Lights) : (s.withLights x).trunk = s.trunk := rfl
@[simp] theorem State.withLights_dog (s : State) (x : Lights) : (s.withLights x).dog = s.dog := rfl
@[simp] theorem State.withLights_store (s : State) (x : Lights) : (s.withLights x).store = s.store := rfl
@[simp] theorem State.withLights_counters (s : State) (x : Lights) : (s.withLights x).counters = s.counters := rfl
@[simp] theorem State.withLights_meter (s : State) (x : Lights) : (s.withLights x).meter = s.meter := rfl
@[simp] theorem State.withLights_decoder (s : State) (x : Lights) : (s.withLights x).decoder = s.decoder := rfl
@[simp] theorem State.withLights_reports (s : State) (x : Lights) : (s.withLights x).reports = s.reports := rfl
@[simp] theorem State.withLights_notices (s : State) (x : Lights) : (s.withLights x).notices = s.notices := rfl
@[simp] theorem State.withLights_ret (s : State) (x : Lights) : (s.withLights x).ret = s.ret := rfl
@[simp] theorem State.withLights_tx (s : State) (x : Lights) : (s.withLights x).tx = s.tx := rfl
@[simp] theorem State.withLights_prog (s : State) (x : Lights) : (s.withLights x).prog = s.prog := rfl
@[simp] theorem State.withLights_lines (s : State) (x : Lights) : (s.withLights x).lines = s.lines := rfl
@[simp] theorem State.withLights_seats (s : State) (x : Lights) : (s.withLights x).seats = s.seats := rfl
@[simp] theorem State.withLights_mixer (s : State) (x : Lights) : (s.withLights x).mixer = s.mixer := rfl
@[simp] theorem State.withLights_route (s : State) (x : Lights) : (s.withLights x).route = s.route := rfl
@[simp] theorem State.withLights_ann (s : State) (x : Lights) : (s.withLights x).ann = s.ann := rfl
@[simp] theorem State.withLights_lights (s : State) (x : Lights) : (s.withLights x).lights = x := rfl
@[simp] theorem State.withLights_cues (s : State) (x : Lights) : (s.withLights x).cues = s.cues := rfl

@[simp] theorem State.withCues_pending (s : State) (x : CueUnit) : (s.withCues x).pending = s.pending := rfl
@[simp] theorem State.withCues_now (s : State) (x : CueUnit) : (s.withCues x).now = s.now := rfl
@[simp] theorem State.withCues_pins (s : State) (x : CueUnit) : (s.withCues x).pins = s.pins := rfl
@[simp] theorem State.withCues_out (s : State) (x : CueUnit) : (s.withCues x).out = s.out := rfl
@[simp] theorem State.withCues_trunk (s : State) (x : CueUnit) : (s.withCues x).trunk = s.trunk := rfl
@[simp] theorem State.withCues_dog (s : State) (x : CueUnit) : (s.withCues x).dog = s.dog := rfl
@[simp] theorem State.withCues_store (s : State) (x : CueUnit) : (s.withCues x).store = s.store := rfl
@[simp] theorem State.withCues_counters (s : State) (x : CueUnit) : (s.withCues x).counters = s.counters := rfl
@[simp] theorem State.withCues_meter (s : State) (x : CueUnit) : (s.withCues x).meter = s.meter := rfl
@[simp] theorem State.withCues_decoder (s : State) (x : CueUnit) : (s.withCues x).decoder = s.decoder := rfl
@[simp] theorem State.withCues_reports (s : State) (x : CueUnit) : (s.withCues x).reports = s.reports := rfl
@[simp] theorem State.withCues_notices (s : State) (x : CueUnit) : (s.withCues x).notices = s.notices := rfl
@[simp] theorem State.withCues_ret (s : State) (x : CueUnit) : (s.withCues x).ret = s.ret := rfl
@[simp] theorem State.withCues_tx (s : State) (x : CueUnit) : (s.withCues x).tx = s.tx := rfl
@[simp] theorem State.withCues_prog (s : State) (x : CueUnit) : (s.withCues x).prog = s.prog := rfl
@[simp] theorem State.withCues_lines (s : State) (x : CueUnit) : (s.withCues x).lines = s.lines := rfl
@[simp] theorem State.withCues_seats (s : State) (x : CueUnit) : (s.withCues x).seats = s.seats := rfl
@[simp] theorem State.withCues_mixer (s : State) (x : CueUnit) : (s.withCues x).mixer = s.mixer := rfl
@[simp] theorem State.withCues_route (s : State) (x : CueUnit) : (s.withCues x).route = s.route := rfl
@[simp] theorem State.withCues_ann (s : State) (x : CueUnit) : (s.withCues x).ann = s.ann := rfl
@[simp] theorem State.withCues_lights (s : State) (x : CueUnit) : (s.withCues x).lights = s.lights := rfl
@[simp] theorem State.withCues_cues (s : State) (x : CueUnit) : (s.withCues x).cues = x := rfl

end Sys2Proof.Machine
end

