-- ==== Sys2Proof/Laws/Ops.lean ====
section
/-! SUPPORT. What each shared operation does, said once: tables, counters, check words, the report queue, the checks
of a message, the reply and the frame lock. -/

namespace Sys2Proof

theorem sumWords_append (a b : List Word) : sumWords (a ++ b) = sumWords a + sumWords b := by
  induction a with
  | nil => simp [sumWords]
  | cons w ws ih => simp [sumWords, ih, BitVec.add_assoc]

/-- Words followed by their check word sum to 0 (R1, R32, R58, R173). -/
theorem sumWords_checked (ws : List Word) : sumWords (ws ++ [checkWord ws]) = 0 := by
  simp [sumWords_append, sumWords, checkWord]

theorem satInc_le (top n : Nat) : satInc top n ≤ top := by
  unfold satInc; split <;> omega

end Sys2Proof

namespace Sys2Proof.Machine

/-! ## Tables -/

@[simp] theorem setAt_self {α : Type} {n : Nat} (v : Vector α n) (i : Fin n) (x : α) : (setAt v i x)[i] = x := by
  simp [setAt]

theorem setAt_other {α : Type} {n : Nat} (v : Vector α n) (i j : Fin n) (x : α) (h : i ≠ j) :
    (setAt v i x)[j] = v[j] := by
  have : i.val ≠ j.val := fun e => h (Fin.ext e)
  simp [setAt, this]

@[simp] theorem mapTable_get {α β : Type} {n : Nat} (f : α → β) (v : Vector α n) (i : Fin n) :
    (mapTable f v)[i] = f v[i] := by
  simp [mapTable]

/-! ## Ramps -/

@[simp] theorem moveToward_target (t up down : Nat) : moveToward t up down t = t := by simp [moveToward]

/-- A move ends between the value and the target (R104, R106, R172). -/
theorem moveToward_between (t up down c : Nat) :
    (c ≤ moveToward t up down c ∧ moveToward t up down c ≤ max c t) ∨
      (moveToward t up down c ≤ c ∧ t ≤ moveToward t up down c) := by
  unfold moveToward; split
  · left; omega
  · split <;> omega

theorem moveToward_le {t up down c top : Nat} (ht : t ≤ top) (hc : c ≤ top) : moveToward t up down c ≤ top := by
  unfold moveToward; split
  · omega
  · split <;> omega

/-! ## The reset pin -/

@[simp] theorem Pins.held_mk (x : RunPhase) (p : Bool) (u : BitVec 2) (f : Profile) :
    (⟨x, p, u, f⟩ : Pins).held = (x != .running) := rfl

@[simp] theorem Pins.held_passThrough (p : Pins) (b : Bool) : ({ p with passThrough := b } : Pins).held = p.held := rfl

@[simp] theorem Pins.held_profile (p : Pins) (f : Profile) : ({ p with profile := f } : Pins).held = p.held := rfl

/-- The part runs exactly in the phase `running` (R193). -/
theorem Pins.held_false {p : Pins} : p.held = false ↔ p.phase = .running := by
  unfold Pins.held; cases p.phase <;> decide

theorem running_held {f : State → State} {s : State} (h : s.pins.held = true) : running f s = s := by simp [running, h]

theorem running_free {f : State → State} {s : State} (h : s.pins.held = false) : running f s = f s := by
  simp [running, h]

/-! ## Notices -/

/-- Setting a cause changes the causes alone (R37). -/
theorem setCause_eq (c : Cause) (s : State) :
    setCause c s = s.withNotices ⟨s.notices.causes ||| BitVec.twoPow 12 (causeBit c), s.notices.enables⟩ := rfl

/-- The cause is set, and every cause already set stays set (R37). -/
theorem setCause_causes (c d : Cause) (s : State) :
    (setCause c s).notices.causes.getLsbD (causeBit d) = (s.notices.causes.getLsbD (causeBit d) || c == d) := by
  cases c <;> cases d <;> simp [setCause, causeBit, State.withNotices]

/-! ## The report queue -/

/-- A report joins the back, or is lost with its cause (R31). -/
theorem offerReport_cases (r : Report) (s : State) :
    (s.reports.queue.length < 16 ∧
      offerReport r s = s.withReports ⟨s.reports.queue ++ [r], s.reports.lost⟩) ∨
    (16 ≤ s.reports.queue.length ∧
      offerReport r s = setCause .reportLost (s.withReports ⟨s.reports.queue, satInc 65535 s.reports.lost⟩)) := by
  unfold offerReport
  by_cases h : s.reports.queue.length < Config.reportDepth
  · left; exact ⟨h, if_pos h⟩
  · right; exact ⟨Nat.le_of_not_lt h, if_neg h⟩

/-- An offer never makes the queue longer than 16 (R31). -/
theorem offerReport_bounded {r : Report} {s : State} (h : s.reports.queue.length ≤ 16) :
    (offerReport r s).reports.queue.length ≤ 16 := by
  rcases offerReport_cases r s with ⟨h1, h2⟩ | ⟨-, h2⟩ <;> rw [h2]
  · simp; omega
  · simpa [setCause] using h

/-! ## Checks -/

/-- All checks pass exactly when none of them fails (R26). -/
theorem firstFailure_none_iff (cs : List (Bool × Result)) : firstFailure cs = none ↔ ∀ c ∈ cs, c.1 = false := by
  induction cs with
  | nil => simp [firstFailure]
  | cons c cs ih => rcases c with ⟨b, r⟩; cases b <;> simp [firstFailure, ih]

theorem judged_pass {cs : List (Bool × Result)} {s t : State} (h : firstFailure cs = none) :
    judged cs s t = ⟨.accepted, [], t⟩ := by simp [judged, h]

theorem judged_fail {cs : List (Bool × Result)} {s t : State} {r : Result} (h : firstFailure cs = some r) :
    judged cs s t = refuse r s := by simp [judged, h]

theorem answered_pass {cs : List (Bool × Result)} {s : State} {d : List Word} (h : firstFailure cs = none) :
    answered cs s d = ⟨.accepted, d, s⟩ := by simp [answered, h]

theorem answered_fail {cs : List (Bool × Result)} {s : State} {d : List Word} {r : Result}
    (h : firstFailure cs = some r) : answered cs s d = refuse r s := by simp [answered, h]

/-- A read changes nothing (R26, R29). -/
theorem answered_state (cs : List (Bool × Result)) (s : State) (d : List Word) : (answered cs s d).state = s := by
  unfold answered; split <;> rfl

/-! ## The frame lock -/

/-- HUNT passes over every word but the sync code (R2). -/
theorem lockStep_hunt_other {n : Nat} {l : FrameLock} {w : Word} (h : l.lock = .hunt) (hw : w ≠ syncWord) :
    lockStep n l w = (l, .quiet) := by simp [lockStep, h, hw]

/-- In HUNT the sync code is a candidate (R2). -/
theorem lockStep_hunt_sync {n : Nat} {l : FrameLock} (h : l.lock = .hunt) :
    lockStep n l syncWord = (⟨.verify, 0, 0, []⟩, .quiet) := by simp [lockStep, h]

/-! ## The scaling operation (R94) -/

/-- Gain 0 gives 0. -/
@[simp] theorem scale_zero (x : Int) : scale x 0 = 0 := by simp [scale]

/-- Gain 32767 gives the value itself from −16383 to 16384, and one nearer to 0 beyond, up to a sample's range
(notes/assumptions/26.md). -/
theorem scale_full (x : Int) (h : x.natAbs ≤ 32767) :
    (-16383 ≤ x → x ≤ 16384 → scale x 32767 = x) ∧ (16384 < x → scale x 32767 = x - 1) ∧
      (x < -16383 → scale x 32767 = x + 1) := by
  simp only [scale]
  omega


end Sys2Proof.Machine
end

