-- ==== Sys2Proof/Laws/Frames.lean ====
section
/-! SUPPORT. The frame of each operation: which fields of the state it may touch. A frame is an equation that gives
every other field at once. -/

namespace Sys2Proof.Machine

/-- Only the announcement controller, the reports and the notices may differ. -/
def TouchesAnn (s t : State) : Prop := t = { s with ann := t.ann, reports := t.reports, notices := t.notices }

/-- Only what a cue scan reaches may differ: lights, mixer, seats, and what TouchesAnn allows. -/
def TouchesEffects (s t : State) : Prop :=
  t = { s with
    lights := t.lights, mixer := t.mixer, seats := t.seats, ann := t.ann, reports := t.reports, notices := t.notices }

/-- As TouchesEffects, and the route. -/
def TouchesRoute (s t : State) : Prop :=
  t = { s with
    route := t.route, lights := t.lights, mixer := t.mixer, seats := t.seats, ann := t.ann, reports := t.reports
    notices := t.notices }

/-- Only what a control message reaches may differ. -/
def TouchesMessage (s t : State) : Prop :=
  t = { s with
    pins := t.pins, counters := t.counters, decoder := t.decoder, prog := t.prog, lines := t.lines, cues := t.cues
    route := t.route, lights := t.lights, mixer := t.mixer, seats := t.seats, ann := t.ann, reports := t.reports
    notices := t.notices }

theorem TouchesAnn.rfl (s : State) : TouchesAnn s s := Eq.refl s
theorem TouchesEffects.rfl (s : State) : TouchesEffects s s := Eq.refl s
theorem TouchesRoute.rfl (s : State) : TouchesRoute s s := Eq.refl s
theorem TouchesMessage.rfl (s : State) : TouchesMessage s s := Eq.refl s

theorem TouchesAnn.trans {a b c : State} (h1 : TouchesAnn a b) (h2 : TouchesAnn b c) : TouchesAnn a c := by
  unfold TouchesAnn at *; rw [h2, h1]

theorem TouchesEffects.trans {a b c : State} (h1 : TouchesEffects a b) (h2 : TouchesEffects b c) :
    TouchesEffects a c := by
  unfold TouchesEffects at *; rw [h2, h1]

theorem TouchesRoute.trans {a b c : State} (h1 : TouchesRoute a b) (h2 : TouchesRoute b c) : TouchesRoute a c := by
  unfold TouchesRoute at *; rw [h2, h1]

theorem TouchesMessage.trans {a b c : State} (h1 : TouchesMessage a b) (h2 : TouchesMessage b c) :
    TouchesMessage a c := by
  unfold TouchesMessage at *; rw [h2, h1]

theorem TouchesAnn.effects {a b : State} (h : TouchesAnn a b) : TouchesEffects a b := by
  unfold TouchesAnn at h; unfold TouchesEffects; rw [h]

theorem TouchesEffects.route {a b : State} (h : TouchesEffects a b) : TouchesRoute a b := by
  unfold TouchesEffects at h; unfold TouchesRoute; rw [h]

theorem TouchesRoute.message {a b : State} (h : TouchesRoute a b) : TouchesMessage a b := by
  unfold TouchesRoute at h; unfold TouchesMessage; rw [h]

theorem TouchesAnn.route {a b : State} (h : TouchesAnn a b) : TouchesRoute a b := h.effects.route
theorem TouchesAnn.message {a b : State} (h : TouchesAnn a b) : TouchesMessage a b := h.effects.route.message

/-- A fold keeps a frame that each of its steps keeps. -/
theorem foldl_touches {α : Type} (R : State → State → Prop) (hr : ∀ s, R s s)
    (ht : ∀ {a b c}, R a b → R b c → R a c) (f : State → α → State) (hf : ∀ s a, R s (f s a)) (l : List α) (s : State) :
    R s (l.foldl f s) := by
  induction l generalizing s with
  | nil => exact hr s
  | cons a l ih => exact ht (hf s a) (ih _)

theorem seats_frame (x : SeatTable) (s : State) : TouchesEffects s (s.withSeats x) := rfl
theorem mixer_frame (x : Mixer) (s : State) : TouchesEffects s (s.withMixer x) := rfl
theorem lights_frame (x : Lights) (s : State) : TouchesEffects s (s.withLights x) := rfl
theorem ann_frame (x : Announcer) (s : State) : TouchesAnn s (s.withAnn x) := rfl
theorem notices_frame (x : Notices) (s : State) : TouchesAnn s (s.withNotices x) := rfl
theorem route_frame (x : Route) (s : State) : TouchesRoute s (s.withRoute x) := rfl
theorem prog_frame (x : Programme) (s : State) : TouchesMessage s (s.withProg x) := rfl
theorem lines_frame (x : Vector SeatLine 4) (s : State) : TouchesMessage s (s.withLines x) := rfl
theorem cues_frame (x : CueUnit) (s : State) : TouchesMessage s (s.withCues x) := rfl
theorem pins_frame (x : Pins) (s : State) : TouchesMessage s (s.withPins x) := rfl

/-! ## Reports and notices -/

theorem setCause_frame (c : Cause) (s : State) : TouchesAnn s (setCause c s) := rfl

theorem setCauseIf_frame (b : Bool) (c : Cause) (s : State) : TouchesAnn s (setCauseIf b c s) := by
  unfold setCauseIf; split <;> first | exact setCause_frame c s | exact .rfl s

theorem offerReport_frame (r : Report) (s : State) : TouchesAnn s (offerReport r s) := by
  unfold offerReport; split <;> rfl

theorem reply_frame (h : MsgHead) (k : BitVec 6) (r : Result) (d : List Word) (s : State) :
    TouchesAnn s (reply h k r d s) := by
  unfold reply; split <;> first | exact offerReport_frame _ s | exact .rfl s

/-! ## The announcement controller -/

theorem setQueue_frame (q : List Entry) (s : State) : TouchesAnn s (setQueue q s) := rfl

theorem removeWaiting_frame (p : Entry → Bool) (s : State) : TouchesAnn s (removeWaiting p s) := rfl

theorem updateActive_frame (f : Entry → Entry) (s : State) : TouchesAnn s (updateActive f s) := rfl

theorem toTrailing_frame (r : Reason) (s : State) : TouchesAnn s (toTrailing r s) := rfl

theorem becomePlaying_frame (s : State) : TouchesAnn s (becomePlaying s) := rfl

theorem abortActive_frame (r : Reason) (s : State) : TouchesAnn s (abortActive r s) := by
  unfold abortActive; split
  · split
    · exact (offerReport_frame _ s).trans (toTrailing_frame _ _)
    · exact .rfl s
  · exact .rfl s

theorem cueEntry_frame (e : Entry) (s : State) : TouchesAnn s (cueEntry e s).1 := by
  unfold cueEntry; dsimp only; split
  · exact TouchesAnn.trans (TouchesAnn.trans (by rfl) (offerReport_frame _ _)) (toTrailing_frame _ _)
  · exact TouchesAnn.trans (by rfl) (offerReport_frame _ _)

theorem preempt_frame (a u : Entry) (s : State) : TouchesAnn s (preempt a u s).1 := by
  unfold preempt; dsimp only
  refine TouchesAnn.trans ?_ (cueEntry_frame _ _)
  split
  · exact TouchesAnn.trans (offerReport_frame _ s) (by rfl)
  · exact TouchesAnn.trans (offerReport_frame _ s) (by rfl)

theorem joinEntry_frame (e : Entry) (s : State) : TouchesAnn s (joinEntry e s).1 := by
  unfold joinEntry; dsimp only; split
  · exact setQueue_frame _ s
  · split
    · exact (setQueue_frame _ s).trans (preempt_frame _ _ _)
    · exact setQueue_frame _ s

theorem offerEntry_frame (e : Entry) (s : State) : TouchesAnn s (offerEntry e s).1 := by
  unfold offerEntry; split
  · exact .rfl s
  · split
    · exact joinEntry_frame e s
    · split
      · exact offerReport_frame _ s
      · exact ((offerReport_frame _ s).trans (removeWaiting_frame _ _)).trans (joinEntry_frame _ _)

theorem finishEntry_frame (e : Entry) (s : State) : TouchesAnn s (finishEntry e s) := by
  unfold finishEntry; dsimp only; split <;> exact (offerReport_frame _ s).trans (setQueue_frame _ _)

theorem announceTimers_frame (s : State) : TouchesAnn s (announceTimers s) := by
  unfold announceTimers; split
  · exact .rfl s
  · split
    · dsimp only; split
      · exact TouchesAnn.trans (by rfl) (abortActive_frame _ _)
      · rfl
    · split
      · dsimp only; split
        · exact TouchesAnn.trans (by rfl) (abortActive_frame _ _)
        · rfl
      · exact .rfl s

theorem silenceCheck_frame (s : State) : TouchesAnn s (silenceCheck s) := by
  unfold silenceCheck; split
  · exact .rfl s
  · dsimp only; split
    · split
      · rfl
      · split
        · split <;> rfl
        · exact .rfl s
    · exact .rfl s

/-! ## Cue scans -/

theorem doAction_frame (a : CueAction) (s : State) : TouchesEffects s (doAction a s).1 := by
  cases a <;> first | rfl | exact (offerEntry_frame _ s).effects

theorem scanCue_frame (t : Trigger) (acc : Raised) (i : Fin 32) : TouchesEffects acc.1 (scanCue t acc i).1 := by
  unfold scanCue; dsimp only; split
  · exact doAction_frame _ _
  · exact .rfl _

theorem scanOnce_frame (t : Trigger) (s : State) : TouchesEffects s (scanOnce t s).1 := by
  have h : ∀ (l : List (Fin 32)) (acc : Raised), TouchesEffects acc.1 (l.foldl (scanCue t) acc).1 := by
    intro l
    induction l with
    | nil => intro acc; exact .rfl _
    | cons i l ih => intro acc; exact (scanCue_frame t acc i).trans (ih _)
  exact h _ (s, [])

theorem raise_frame (t : Trigger) (s : State) : TouchesEffects s (raise t s) :=
  (scanOnce_frame t s).trans
    (foldl_touches _ .rfl .trans _ (fun s' t' => scanOnce_frame t' s') _ _)

theorem raiseAll_frame (r : Raised) : TouchesEffects r.1 (raiseAll r) :=
  foldl_touches _ .rfl .trans _ (fun s t => raise_frame t s) _ _

theorem tryCue_frame (s : State) : TouchesEffects s (tryCue s) := by
  unfold tryCue; split
  · exact .rfl s
  · exact (cueEntry_frame _ s).effects.trans (raiseAll_frame _)

theorem leaveTrailing_frame (s : State) : TouchesEffects s (leaveTrailing s) := by
  unfold leaveTrailing; split
  · exact .rfl s
  · exact ((finishEntry_frame _ s).effects.trans (raise_frame _ _)).trans (tryCue_frame _)

theorem startPlaying_frame (s : State) : TouchesEffects s (startPlaying s) :=
  (becomePlaying_frame s).effects.trans (raise_frame _ _)

theorem chimeEnded_frame (s : State) : TouchesEffects s (chimeEnded s) := by
  unfold chimeEnded; split
  · exact .rfl s
  · split
    · split
      · exact (toTrailing_frame _ s).effects
      · split
        · exact startPlaying_frame s
        · exact .rfl s
    · exact .rfl s

theorem offer_frame (e : Entry) (s : State) : TouchesEffects s (offer e s) :=
  (offerEntry_frame e s).effects.trans (raiseAll_frame _)

theorem tickUsers_frame (s : State) : TouchesEffects s (tickUsers s) := by
  have h : TouchesEffects s (holdoffTick s) := seats_frame _ s
  unfold tickUsers
  exact (h.trans (announceTimers_frame _).effects).trans (tryCue_frame _)

/-! ## The route tracker -/

theorem setLap_frame (i : Nat) (l : LapState) (s : State) : TouchesRoute s (setLap i l s) := by
  unfold setLap; split <;> rfl

theorem lapWrap_frame (s : State) : TouchesRoute s (lapWrap s) := rfl

theorem passStop_frame (i : Nat) (st : Stop) (s : State) : TouchesRoute s (passStop i st s) :=
  ((setLap_frame i _ s).trans (removeWaiting_frame _ _).route).trans (offerReport_frame _ _).route

theorem arriveStop_frame (i : Nat) (st : Stop) (s : State) : TouchesRoute s (arriveStop i st s) := by
  unfold arriveStop; dsimp only
  refine TouchesRoute.trans ?_ (offerReport_frame _ _).route
  refine TouchesRoute.trans ?_ (raise_frame _ _).route
  have h := (setLap_frame i .arrived s).trans (removeWaiting_frame (hasKey .approach st.number) _).route
  split
  · exact h.trans (offer_frame _ _).route
  · exact h

theorem approachStop_frame (i : Nat) (st : Stop) (s : State) : TouchesRoute s (approachStop i st s) := by
  unfold approachStop; dsimp only
  refine TouchesRoute.trans ?_ (raise_frame _ _).route
  split
  · exact (setLap_frame i _ s).trans (offer_frame _ _).route
  · exact setLap_frame i _ s

theorem evaluateStop_frame (s : State) (i : Nat) : TouchesRoute s (evaluateStop s i) := by
  unfold evaluateStop; split
  · exact .rfl s
  · dsimp only; split
    · exact passStop_frame _ _ _
    · split
      · exact arriveStop_frame _ _ _
      · split
        · exact approachStop_frame _ _ _
        · split
          · exact (removeWaiting_frame _ _).route
          · exact .rfl s

theorem evaluateStops_frame (s : State) : TouchesRoute s (evaluateStops s) := by
  unfold evaluateStops; split
  · exact foldl_touches _ .rfl .trans _ evaluateStop_frame _ _
  · exact .rfl s

theorem placeFix_frame (n : Nat) (s : State) : TouchesRoute s (placeFix n s) := by
  unfold placeFix; dsimp only; split
  · rfl
  · split
    · rfl
    · split
      · rfl
      · split <;> rfl

theorem takeFix_frame (p v : Nat) (s : State) : TouchesRoute s (takeFix p v s) := by
  unfold takeFix; dsimp only
  exact ((placeFix_frame _ s).trans (by rfl)).trans (evaluateStops_frame _)

theorem routeTick_frame (s : State) : TouchesRoute s (routeTick s) := by
  unfold routeTick; split
  · dsimp only
    refine TouchesRoute.trans ?_ (tryCue_frame _).route
    have hb : ∀ s, TouchesRoute s (boundEstimate s) := by
      intro s; unfold boundEstimate; dsimp only; split
      · rfl
      · split
        · rfl
        · exact .rfl s
    have h := ((TouchesRoute.trans (b := setRoute (reckon s.route) s) (by rfl) (hb _)).trans
      (c := setRoute { (boundEstimate (setRoute (reckon s.route) s)).route with
        status := statusOfAge (boundEstimate (setRoute (reckon s.route) s)).route.age }
        (boundEstimate (setRoute (reckon s.route) s))) (by rfl)).trans
      (setCauseIf_frame
        ((setRoute { (boundEstimate (setRoute (reckon s.route) s)).route with
          status := statusOfAge (boundEstimate (setRoute (reckon s.route) s)).route.age }
          (boundEstimate (setRoute (reckon s.route) s))).route.status == .stale) .positionStale _).route
    split
    · exact h.trans (evaluateStops_frame _)
    · exact h
  · exact .rfl s

theorem tourAction_frame (n : Nat) (s : State) : TouchesRoute s (tourAction n s) := by
  have hc : ∀ s, TouchesRoute s (clearForTour s) := fun s =>
    ((abortActive_frame _ s).trans (removeWaiting_frame _ _)).route
  have ht : ∀ s, TouchesRoute s (tourStartSeats s) := fun s => (seats_frame _ s).route
  unfold tourAction; split
  · unfold tourStart; dsimp only
    exact (((route_frame _ s).trans (hc _)).trans (ht _)).trans (raise_frame _ _).route
  · unfold tourPause; dsimp only
    exact ((route_frame _ s).trans (removeWaiting_frame _ _).route).trans (raise_frame _ _).route
  · unfold tourResume; dsimp only
    exact ((route_frame _ s).trans (evaluateStops_frame _)).trans (raise_frame _ _).route
  · unfold tourEnd; dsimp only; split
    · exact (route_frame _ s).trans (hc _)
    · exact ((route_frame _ s).trans (hc _)).trans (raise_frame _ _).route

/-! ## Messages -/

theorem judged_frame {cs : List (Bool × Result)} {s t : State} (h : TouchesMessage s t) :
    TouchesMessage s (judged cs s t).state := by
  unfold judged; split
  · exact .rfl s
  · exact h

theorem answered_frame (cs : List (Bool × Result)) (s : State) (d : List Word) :
    TouchesMessage s (answered cs s d).state := by rw [answered_state]; exact .rfl s

theorem clipStart_frame (strict : Bool) (p : List Word) (s : State) :
    TouchesMessage s (judgeClipStart strict p s).state := by
  unfold judgeClipStart; split
  · exact .rfl s
  · unfold clipStartOutcome
    have hr : ∀ n, TouchesMessage s (offerReport (abortReport n .stale) s) := fun n =>
      (offerReport_frame _ s).message
    split
    · exact hr _
    · split
      · split
        · split
          · exact .rfl s
          · dsimp only; split
            · exact (updateActive_frame _ s).message.trans (startPlaying_frame _).route.message
            · exact (updateActive_frame _ s).message
        · exact .rfl s
        · exact hr _
        · exact hr _
      · exact hr _

theorem cancelAction_frame (p : List Word) (s : State) : TouchesAnn s (cancelAction p s) := by
  have hc : ∀ q, TouchesAnn s (cancelActive q s) := by
    intro q; unfold cancelActive; split
    · exact abortActive_frame _ s
    · exact .rfl s
  unfold cancelAction; split
  · exact hc _
  · exact (hc _).trans (removeWaiting_frame _ _)
  · exact (hc _).trans (removeWaiting_frame _ _)

/-- What judging a message may touch (R26). -/
theorem judgeKind_frame (k : MsgKind) (strict : Bool) (p : List Word) (s : State) :
    TouchesMessage s (judgeKind k strict p s).state := by
  cases k <;> dsimp only [judgeKind]
  case clipStart => exact clipStart_frame strict p s
  case readStatus =>
    unfold judgeReadStatus; split
    · exact .rfl s
    · dsimp only; split
      · rfl
      · exact .rfl s
  case position =>
    refine judged_frame ?_; split
    · exact (takeFix_frame _ _ s).message
    · rfl
  case tour => exact judged_frame (tourAction_frame _ s).message
  case announce => exact judged_frame (offer_frame _ s).route.message
  case cancel => exact judged_frame (cancelAction_frame p s).message
  case marker => exact judged_frame (raise_frame _ s).route.message
  case setCarousel =>
    exact judged_frame ((prog_frame _ s).trans (seats_frame _ _).route.message)
  case restart => exact judged_frame (by unfold TouchesMessage restartState; rfl)
  case setAudio => exact judged_frame (mixer_frame _ s).route.message
  case clipEnd => exact judged_frame (toTrailing_frame _ s).message
  case setRoute => exact judged_frame (route_frame _ s).message
  case writeStops => exact judged_frame (route_frame _ s).message
  case readLanes => exact answered_frame _ s _
  case readSeat => exact answered_frame _ s _
  case readLine => exact answered_frame _ s _
  case readStops => exact answered_frame _ s _
  case readQueue => exact answered_frame _ s _
  case readZones => exact answered_frame _ s _
  case readCues => exact answered_frame _ s _
  case readNotices => exact answered_frame _ s _
  case setLane => exact judged_frame (prog_frame _ s)
  case setSeat => exact judged_frame ((seats_frame _ s).route.message)
  case setSeatRange => exact judged_frame ((seats_frame _ s).route.message)
  case setSeatLine => exact judged_frame (lines_frame _ s)
  case setChime => exact judged_frame ((ann_frame _ s).message)
  case setAnnounce => exact judged_frame ((ann_frame _ s).message)
  case setScene => exact judged_frame ((lights_frame _ s).route.message)
  case setPattern => exact judged_frame ((lights_frame _ s).route.message)
  case applyScene => exact judged_frame ((lights_frame _ s).route.message)
  case setZones => exact judged_frame ((lights_frame _ s).route.message)
  case setCue => exact judged_frame (cues_frame _ s)
  case setAmbient => exact judged_frame (cues_frame _ s)
  case setNotices => exact judged_frame ((notices_frame _ s).message)
  case clearNotices => exact judged_frame ((notices_frame _ s).message)
  case setProfile => exact judged_frame (pins_frame _ s)

theorem judgeMessage_frame (h : MsgHead) (c : BitVec 6) (p : List Word) (s : State) :
    TouchesMessage s (judgeMessage h c p s).state := by
  unfold judgeMessage; dsimp only; split
  · exact .rfl s
  · split
    · exact .rfl s
    · split
      · exact .rfl s
      · exact judgeKind_frame _ _ p s

theorem decoder_frame (d : Decoder) (s : State) : TouchesMessage s (s.withDecoder d) := rfl

/-- What a whole message may touch (R26). -/
theorem completeMessage_frame (h : MsgHead) (c : BitVec 6) (p : List Word) (s : State) :
    TouchesMessage s (completeMessage h c p s) := by
  have hr := ((decoder_frame _ s).trans (judgeMessage_frame h c p (decoderIdle s))).trans
    (reply_frame h c (judgeMessage h c p (decoderIdle s)).result (judgeMessage h c p (decoderIdle s)).data _).message
  unfold completeMessage; dsimp only; split
  · exact hr.trans (tryCue_frame _).route.message
  · exact hr

theorem receive_frame (h : MsgHead) (c : BitVec 6) (p : List Word) (s : State) : TouchesMessage s (receive h c p s) := by
  unfold receive; split
  · exact decoder_frame _ s
  · split
    · exact (reply_frame _ _ _ _ s).message.trans (decoder_frame _ _)
    · exact completeMessage_frame h c p s

theorem garble_frame (s : State) : TouchesMessage s (garble s) :=
  (decoder_frame _ s).trans (setCause_frame _ _).message

theorem dataWord_frame (w : Word) (s : State) : TouchesMessage s (dataWord w s) := by
  unfold dataWord; split
  · split <;> exact decoder_frame _ s
  · split
    · exact decoder_frame _ s
    · exact (reply_frame _ _ _ _ s).message.trans (decoder_frame _ _)

/-- What a control word may touch (R22 to R24). -/
theorem controlWord_frame (w : Word) (s : State) : TouchesMessage s (controlWord w s) := by
  unfold controlWord; split
  · split
    · unfold outsidePair; split
      · exact decoder_frame _ s
      · split
        · exact decoder_frame _ s
        · exact (decoder_frame _ s).trans (garble_frame _)
    · unfold outsideWord; split
      · exact .rfl s
      · split
        · exact decoder_frame _ s
        · exact garble_frame s
  · split
    · unfold messagePair; split
      · exact dataWord_frame w s
      · split
        · split
          · exact decoder_frame _ s
          · split
            · exact (garble_frame s).trans (decoder_frame _ _)
            · split
              · exact decoder_frame _ s
              · exact (garble_frame s).trans (decoder_frame _ _)
        · have hf : ∀ h, TouchesMessage s (refuseFraming h s) := fun h => (reply_frame _ _ _ _ s).message
          split
          · exact (hf _).trans (decoder_frame _ _)
          · split
            · exact completeMessage_frame _ _ _ s
            · split
              · exact decoder_frame _ s
              · exact (hf _).trans (decoder_frame _ _)
    · unfold messageWord; split
      · exact .rfl s
      · split
        · exact decoder_frame _ s
        · exact dataWord_frame w s
  · unfold discardWord; split
    · split <;> exact decoder_frame _ s
    · split
      · exact decoder_frame _ s
      · exact .rfl s

end Sys2Proof.Machine
end

