-- ==== Sys2Proof/Laws/Events.lean ====
section
/-! SUPPORT. The frame of each event of the block and of the rows that name what comes about inside one; and that no
event clears a notice cause. -/

namespace Sys2Proof.Machine

/-! ## Occurrences -/

/-- A row that names what comes about inside a step is the step, where it is due and the part runs, or changes nothing. -/
theorem occurrence_cases (due : Bool) (step : State → State) (s : State) :
    (due = true ∧ s.pins.held = false ∧ occurrence due step s = .next (step s)) ∨
      (due = false ∨ s.pins.held = true) ∧ occurrence due step s = .next s := by
  cases due <;> cases h : s.pins.held <;> simp [occurrence, h]

theorem occurrence_due {due : Bool} {step : State → State} {s : State} (h : due = true) (hs : s.pins.held = false) :
    occurrence due step s = .next (step s) := by simp [occurrence, h, hs]

theorem occurrence_not {due : Bool} {step : State → State} {s : State} (h : due = false ∨ s.pins.held = true) :
    occurrence due step s = .next s := by
  rcases h with h | h <;> simp [occurrence, h]

/-- Whatever holds of a state and of the step's answer holds of an occurrence's. -/
theorem occurrence_next (due : Bool) (step : State → State) (s : State) (P : State → Prop) (h0 : P s)
    (h1 : P (step s)) : ∃ t, occurrence due step s = .next t ∧ P t := by
  rcases occurrence_cases due step s with ⟨-, -, h⟩ | ⟨-, h⟩
  · exact ⟨_, h, h1⟩
  · exact ⟨_, h, h0⟩

/-! ## The trunk -/

/-- Only what a trunk word reaches may differ. -/
def TouchesTrunk (s t : State) : Prop :=
  t = { s with
    trunk := t.trunk, dog := t.dog, store := t.store
    pins := t.pins, counters := t.counters, decoder := t.decoder, prog := t.prog, lines := t.lines, cues := t.cues
    route := t.route, lights := t.lights, mixer := t.mixer, seats := t.seats, ann := t.ann, reports := t.reports
    notices := t.notices }

theorem TouchesTrunk.trans {a b c : State} (h1 : TouchesTrunk a b) (h2 : TouchesTrunk b c) : TouchesTrunk a c := by
  unfold TouchesTrunk at *; rw [h2, h1]

theorem TouchesMessage.trunk {a b : State} (h : TouchesMessage a b) : TouchesTrunk a b := by
  unfold TouchesMessage at h; unfold TouchesTrunk; rw [h]

theorem trunk_frame (x : TrunkRx) (s : State) : TouchesTrunk s (s.withTrunk x) := rfl
theorem dog_frame (x : Watchdog) (s : State) : TouchesTrunk s (s.withDog x) := rfl

theorem storeJoin_frame (f : LaneFrame) (s : State) :
    storeJoin f s = { s with
      store := (storeJoin f s).store, counters := (storeJoin f s).counters, notices := (storeJoin f s).notices } := by
  unfold storeJoin; split
  · rfl
  · split <;> rfl

theorem storeJoin_trunk (f : LaneFrame) (s : State) : TouchesTrunk s (storeJoin f s) := by
  unfold TouchesTrunk; rw [storeJoin_frame f s]

theorem countGap_frame (gap : Bool) (s : State) : TouchesTrunk s (countGap gap s) := by
  unfold countGap; split <;> exact Eq.refl _

theorem takeGood_frame (words : List Word) (s : State) : TouchesTrunk s (takeGood words s) := by
  unfold takeGood; dsimp only
  exact (trunk_frame _ s).trans ((dog_frame _ _).trans ((storeJoin_trunk _ _).trans
    ((controlWord_frame _ _).trunk.trans (countGap_frame _ _))))

/-- What a bad frame may touch (R7). -/
theorem takeBad_frame (s : State) :
    takeBad s = { s with
      trunk := { s.trunk with badRun := satInc 255 s.trunk.badRun }
      counters := (takeBad s).counters, notices := (takeBad s).notices, decoder := (takeBad s).decoder
      store := (takeBad s).store } := by
  unfold takeBad; dsimp only; rw [storeJoin_frame]; rfl

theorem trunkReceive_frame (w : Word) (s : State) : TouchesTrunk s (trunkReceive w s) := by
  unfold trunkReceive trunkEvent; dsimp only; split
  · unfold TouchesTrunk; rfl
  · unfold TouchesTrunk; rfl
  · split
    · exact (trunk_frame _ s).trans (takeGood_frame _ _)
    · rw [takeBad_frame]; unfold TouchesTrunk; rfl

/-- A trunk word is repeated on trunk-out, and no other output changes (R17, R193). -/
theorem trunkWord_out (w : Word) (s : State) : (trunkWord w s).out = { s.out with trunkOut := some w } := by
  unfold trunkWord running; split
  · rfl
  · rw [trunkReceive_frame w (repeatWord w s)]; rfl

/-! ## The local tick -/

/-- Only what the local tick reaches may differ. -/
def TouchesTick (s t : State) : Prop :=
  t = { s with
    now := t.now, dog := t.dog, store := t.store
    lights := t.lights, mixer := t.mixer, seats := t.seats, ann := t.ann, reports := t.reports, notices := t.notices }

theorem TouchesTick.trans {a b c : State} (h1 : TouchesTick a b) (h2 : TouchesTick b c) : TouchesTick a c := by
  unfold TouchesTick at *; rw [h2, h1]

theorem TouchesEffects.tick {a b : State} (h : TouchesEffects a b) : TouchesTick a b := by
  unfold TouchesEffects at h; unfold TouchesTick; rw [h]

theorem now_tick (x : Nat) (s : State) : TouchesTick s (s.withNow x) := rfl
theorem dog_tick (x : Watchdog) (s : State) : TouchesTick s (s.withDog x) := rfl
theorem store_tick (x : Store) (s : State) : TouchesTick s (s.withStore x) := rfl

theorem healthFalls_frame (s : State) : TouchesTick s (healthFalls s) := by
  unfold healthFalls; dsimp only
  exact (dog_tick _ s).trans <| (store_tick _ _).trans <| ((setCause_frame _ _).effects.trans ((abortActive_frame _ _).effects.trans
    ((lights_frame _ _).trans (raise_frame _ _)))).tick

theorem healthRises_frame (s : State) : TouchesTick s (healthRises s) := by
  unfold healthRises; dsimp only
  exact (dog_tick _ s).trans <| ((setCause_frame _ _).effects.trans ((lights_frame _ _).trans
    ((tryCue_frame _).trans ((raise_frame _ _).trans (tryCue_frame _))))).tick

theorem watchdogTick_frame (s : State) : TouchesTick s (watchdogTick s) := by
  unfold watchdogTick; split
  · split
    · exact dog_tick _ s
    · split
      · exact dog_tick _ s
      · exact healthFalls_frame s
  · split
    · split
      · exact dog_tick _ s
      · exact healthRises_frame s
    · exact dog_tick _ s

theorem localTick_frame (b : Bool) (s : State) : TouchesTick s (localTick b s) := by
  unfold localTick; dsimp only; split
  · exact (now_tick _ s).trans ((watchdogTick_frame _).trans (tickUsers_frame _).tick)
  · exact (now_tick _ s).trans ((tickUsers_frame _).tick.trans (watchdogTick_frame _))

/-! ## Seat lines, return-in and the other inputs -/

theorem deliverKeys_frame (i : Fin 65) (k : Keys) (s : State) :
    deliverKeys i k s = { s with
      seats := (deliverKeys i k s).seats, reports := (deliverKeys i k s).reports
      notices := (deliverKeys i k s).notices } := by
  unfold deliverKeys; dsimp only; split
  · rfl
  · split
    · rcases offerReport_cases (seatCall i) (s.withSeats { s.seats with
        records := setAt s.seats.records i (pressKeys s.prog.carousel k s.seats.records[i]) }) with ⟨-, h⟩ | ⟨-, h⟩ <;>
        rw [h] <;> rfl
    · rfl

theorem setCauseIf_frame' (b : Bool) (c : Cause) (s : State) :
    setCauseIf b c s = { s with notices := (setCauseIf b c s).notices } := by
  unfold setCauseIf; split <;> rfl

theorem takeReplyWord_frame (i : Fin 4) (w : Word) (s : State) :
    takeReplyWord i w s = { s with
      lines := (takeReplyWord i w s).lines, seats := (takeReplyWord i w s).seats
      reports := (takeReplyWord i w s).reports, notices := (takeReplyWord i w s).notices } := by
  unfold takeReplyWord; split
  · rfl
  · split
    · rfl
    · split
      · unfold judgeValid; dsimp only; rw [deliverKeys_frame, deliverKeys_frame (s := setCauseIf _ _ _),
          setCauseIf_frame', setCauseIf_frame']; rfl
      · rfl

theorem trackWord_frame (w : Word) (s : State) :
    trackWord w s = { s with ret := (trackWord w s).ret, notices := (trackWord w s).notices } := by
  unfold trackWord inPair inWord openHeld truncateHeld
  repeat' split
  all_goals rfl

theorem trackLost_frame (s : State) : trackLost s = s.withRet (trackLost s).ret := by
  unfold trackLost truncateHeld
  split <;> rfl

theorem returnReceive_frame (w : Word) (s : State) :
    returnReceive w s = { s with ret := (returnReceive w s).ret, notices := (returnReceive w s).notices } := by
  unfold returnReceive returnEvent; dsimp only; split
  · rfl
  · rw [trackLost_frame]; rfl
  · split
    · unfold takeReturnFrame; rw [trackWord_frame]; rfl
    · rw [trackLost_frame]; rfl

theorem ambientSample_frame (x : Nat) (s : State) :
    ambientSample x s = { s with
      cues := { s.cues with ambient := takeSample s.cues.ambient x }
      lights := (ambientSample x s).lights, mixer := (ambientSample x s).mixer, seats := (ambientSample x s).seats
      ann := (ambientSample x s).ann, reports := (ambientSample x s).reports
      notices := (ambientSample x s).notices } := by
  unfold ambientSample; dsimp only; split
  · rw [setCauseIf_frame']; rfl
  · have h := setCauseIf_frame' ((x == 0 || decide (255 ≤ x)) && s.cues.ambient.invalidRun + 1 == Config.invalidLimit)
      .sensorInvalid (s.withCues { s.cues with ambient := takeSample s.cues.ambient x })
    have h2 := (raise_frame ⟨.ambientBand, bandCode (takeSample s.cues.ambient x).confirmed⟩ (setCauseIf
      ((x == 0 || decide (255 ≤ x)) && s.cues.ambient.invalidRun + 1 == Config.invalidLimit)
      .sensorInvalid (s.withCues { s.cues with ambient := takeSample s.cues.ambient x }))).trans (tryCue_frame _)
    revert h2
    generalize tryCue _ = t
    intro h2
    unfold TouchesEffects at h2
    rw [h2, h]; rfl

/-! ## The output frame -/

/-- Only what an output frame reaches may differ. -/
def TouchesFrame (s t : State) : Prop :=
  t = { s with
    pins := t.pins, out := t.out, store := t.store, counters := t.counters, meter := t.meter, ret := t.ret, tx := t.tx
    lines := t.lines, lights := t.lights, mixer := t.mixer, seats := t.seats, ann := t.ann, reports := t.reports
    notices := t.notices }

theorem TouchesFrame.rfl (s : State) : TouchesFrame s s := Eq.refl s

theorem TouchesFrame.trans {a b c : State} (h1 : TouchesFrame a b) (h2 : TouchesFrame b c) : TouchesFrame a c := by
  unfold TouchesFrame at *; rw [h2, h1]

theorem TouchesEffects.frame {a b : State} (h : TouchesEffects a b) : TouchesFrame a b := by
  unfold TouchesEffects at h; unfold TouchesFrame; rw [h]

theorem lines_out (x : Vector SeatLine 4) (s : State) : TouchesFrame s (s.withLines x) := rfl
theorem meter_out (x : Meter) (s : State) : TouchesFrame s (s.withMeter x) := rfl
theorem notices_out (x : Notices) (s : State) : TouchesFrame s (s.withNotices x) := rfl

theorem closePolls_frame (which : Vector Bool 4) (s : State) : TouchesFrame s (closePolls which s) := by
  unfold closePolls; rw [setCauseIf_frame']; unfold TouchesFrame; rfl

/-- Closing reply windows touches the named lines and, where one loses its box, the notices (R61 to R64). -/
theorem closePolls_lines (which : Vector Bool 4) (s : State) (i : Fin 4) :
    (closePolls which s).lines[i] = if which[i] then lineClosed s.lines[i] else s.lines[i] := by
  unfold closePolls; rw [setCauseIf_frame']; simp

theorem closePolls_only (which : Vector Bool 4) (s : State) :
    closePolls which s = { s with lines := (closePolls which s).lines, notices := (closePolls which s).notices } := by
  unfold closePolls; rw [setCauseIf_frame']; rfl

/-- The windows that close before the mix and those that close after it are all four, each once. -/
theorem closePolls_rest (which : Vector Bool 4) (s : State) (i : Fin 4) :
    (closePolls (mapTable (!·) which) (closePolls which s)).lines[i] = lineClosed s.lines[i] := by
  simp only [closePolls_lines, mapTable_get]; cases which[i] <;> simp

theorem storeTake_frame (s : State) : TouchesFrame s (storeTake s).2 := by
  unfold storeTake
  split <;> (unfold TouchesFrame; rfl)

/-- What the reply slot may touch: the transmitter, the hold buffer and the report queue (R36). -/
theorem chooseWord_frame (s : State) :
    (chooseWord s).2 = { s with
      tx := (chooseWord s).2.tx, reports := (chooseWord s).2.reports
      ret := { s.ret with hold := (chooseWord s).2.ret.hold } } := by
  unfold chooseWord forwardWord afterForward beginLocal
  repeat' split
  all_goals rfl

theorem replySlot_frame (s : State) :
    (replySlot s).2 = { s with
      tx := (replySlot s).2.tx, reports := (replySlot s).2.reports
      ret := { s.ret with hold := (replySlot s).2.ret.hold } } := by
  unfold replySlot; split
  · exact chooseWord_frame s
  · rw [chooseWord_frame]; rfl
  · rfl
  · rfl
  · unfold forwardSlot; split
    · rw [chooseWord_frame]; rfl
    · split
      · rw [chooseWord_frame]; rfl
      · unfold forwardWord afterForward
        repeat' split
        all_goals rfl
  · rfl

theorem sendReturnFrame_frame (s : State) : TouchesFrame s (sendReturnFrame s) := by
  unfold sendReturnFrame; dsimp only; rw [replySlot_frame]; unfold TouchesFrame; rfl

theorem sendReturnIf_frame (b : Bool) (s : State) : TouchesFrame s (sendReturnIf b s) := by
  unfold sendReturnIf; split
  · exact sendReturnFrame_frame s
  · exact .rfl s

theorem meterBlock_frame (s : State) : TouchesFrame s (meterBlock s) := by
  unfold meterBlock; split
  · exact .rfl s
  · exact (meter_out _ s).trans (silenceCheck_frame _).effects.frame

theorem frameEvents_frame (b : Bool) (s : State) : TouchesFrame s (frameEvents b s) := by
  have h1 : TouchesFrame s (trailingEvent s) := by
    unfold trailingEvent; split
    · exact (leaveTrailing_frame s).frame
    · exact .rfl s
  have h2 : ∀ t, TouchesFrame t (chimeEvent b t) := by
    intro t; unfold chimeEvent; split
    · exact (chimeEnded_frame t).frame
    · exact .rfl t
  exact h1.trans ((meterBlock_frame _).trans (h2 _))

theorem sendFrame_frame (o : FrameOrder) (start : State) (f : LaneFrame) (s : State) :
    TouchesFrame s (sendFrame o start f s) := by
  unfold sendFrame; dsimp only
  have h : TouchesFrame s (chimeStep s) := Eq.refl _
  exact (h.trans (closePolls_frame _ _)).trans (Eq.refl _)

/-- What an output frame may touch (R95). -/
theorem outputFrame_frame (o : FrameOrder) (s : State) : TouchesFrame s (outputFrame o s) := by
  unfold outputFrame; split
  · unfold TouchesFrame; rfl
  · unfold runFrame; dsimp only
    refine (closePolls_frame o.pollsFirst s).trans ((storeTake_frame _).trans ?_)
    have h : ∀ f t, TouchesFrame t (prepared f t) := fun _ _ => Eq.refl _
    exact (h _ _).trans ((sendFrame_frame o s _ _).trans ((sendReturnIf_frame _ _).trans
      ((frameEvents_frame _ _).trans (sendReturnIf_frame _ _))))

end Sys2Proof.Machine
end

