-- ==== Sys2Proof/Laws/Notices.lean ====
section
/-! SUPPORT. The shared operations of the announcement queue, the cues and the trunk's health clear no notice cause
and change no enable: only the notice messages, Restart and power-on do (R37). -/

namespace Sys2Proof.Machine

/-- Every cause that was set is still set, and the enables stand. -/
def CausesKept (s t : State) : Prop :=
  (∀ i, s.notices.causes.getLsbD i = true → t.notices.causes.getLsbD i = true) ∧ t.notices.enables = s.notices.enables

theorem CausesKept.rfl (s : State) : CausesKept s s := ⟨fun _ h => h, Eq.refl _⟩

theorem CausesKept.trans {a b c : State} (h1 : CausesKept a b) (h2 : CausesKept b c) : CausesKept a c :=
  ⟨fun i h => h2.1 i (h1.1 i h), h2.2.trans h1.2⟩

theorem CausesKept.of_eq {s t : State} (h : t.notices = s.notices) : CausesKept s t := by
  constructor
  · intro i hi; rw [h]; exact hi
  · rw [h]

theorem ann_keeps (x : Announcer) (s : State) : CausesKept s (s.withAnn x) := ⟨fun _ h => h, Eq.refl _⟩
theorem queue_keeps (q : List Entry) (s : State) : CausesKept s (setQueue q s) := ⟨fun _ h => h, Eq.refl _⟩
theorem lights_keeps (x : Lights) (s : State) : CausesKept s (s.withLights x) := ⟨fun _ h => h, Eq.refl _⟩
theorem store_keeps (x : Store) (s : State) : CausesKept s (s.withStore x) := ⟨fun _ h => h, Eq.refl _⟩
theorem lines_keeps (x : Vector SeatLine 4) (s : State) : CausesKept s (s.withLines x) := ⟨fun _ h => h, Eq.refl _⟩
theorem counters_keeps (x : Counters) (s : State) : CausesKept s (s.withCounters x) := ⟨fun _ h => h, Eq.refl _⟩
theorem meter_keeps (x : Meter) (s : State) : CausesKept s (s.withMeter x) := ⟨fun _ h => h, Eq.refl _⟩

theorem setCause_keeps (c : Cause) (s : State) : CausesKept s (setCause c s) := by
  constructor
  · intro i h; simp [setCause_eq, h]
  · rfl

theorem setCauseIf_keeps (b : Bool) (c : Cause) (s : State) : CausesKept s (setCauseIf b c s) := by
  cases b
  · exact .rfl s
  · exact setCause_keeps c s

/-- A cause that a step has just set. -/
theorem setCause_sets (c : Cause) (s : State) : (setCause c s).notices.causes.getLsbD (causeBit c) = true := by
  rw [setCause_causes]; simp

theorem offerReport_keeps (r : Report) (s : State) : CausesKept s (offerReport r s) := by
  rcases offerReport_cases r s with ⟨-, h⟩ | ⟨-, h⟩ <;> rw [h]
  · exact .of_eq (Eq.refl _)
  · exact CausesKept.trans (.of_eq (Eq.refl _)) (setCause_keeps _ _)

theorem updateActive_keeps (f : Entry → Entry) (s : State) : CausesKept s (updateActive f s) :=
  ⟨fun _ h => h, Eq.refl _⟩

theorem toTrailing_keeps (r : Reason) (s : State) : CausesKept s (toTrailing r s) := ⟨fun _ h => h, Eq.refl _⟩

theorem abortActive_keeps (r : Reason) (s : State) : CausesKept s (abortActive r s) := by
  unfold abortActive; split
  · split
    · exact (offerReport_keeps _ s).trans (toTrailing_keeps _ _)
    · exact .rfl s
  · exact .rfl s

theorem cueEntry_keeps (e : Entry) (s : State) : CausesKept s (cueEntry e s).1 := by
  unfold cueEntry; dsimp only
  have h := (ann_keeps _ s).trans (offerReport_keeps (cueReport e (nextTicket s.ann.ticket) (buildPlan s)) (s.withAnn
    { s.ann with
      queue := s.ann.queue.map fun f =>
        if hasKey e.kind e.subject f then cuedEntry (nextTicket s.ann.ticket) (buildPlan s) f else f
      ticket := nextTicket s.ann.ticket, cueTimer := 0, chime := startChime s.ann.slots (chimeSlot e) }))
  split
  · exact h.trans (.of_eq (Eq.refl _))
  · exact h

theorem preempt_keeps (a u : Entry) (s : State) : CausesKept s (preempt a u s).1 := by
  unfold preempt; dsimp only
  refine CausesKept.trans (offerReport_keeps (abortReport a.ticket .preempted) s) ?_
  split
  · exact (queue_keeps _ _).trans ((queue_keeps _ _).trans ((ann_keeps _ _).trans (cueEntry_keeps _ _)))
  · exact (queue_keeps _ _).trans ((ann_keeps _ _).trans (cueEntry_keeps _ _))

theorem joinEntry_keeps (e : Entry) (s : State) : CausesKept s (joinEntry e s).1 := by
  unfold joinEntry; dsimp only; split
  · exact .of_eq (Eq.refl _)
  · split
    · exact (queue_keeps _ s).trans (preempt_keeps _ _ _)
    · exact .of_eq (Eq.refl _)

theorem offerEntry_keeps (e : Entry) (s : State) : CausesKept s (offerEntry e s).1 := by
  unfold offerEntry; split
  · exact .rfl s
  · split
    · exact joinEntry_keeps e s
    · split
      · exact offerReport_keeps _ s
      · exact (offerReport_keeps _ s).trans ((queue_keeps _ _).trans (joinEntry_keeps _ _))

theorem doAction_keeps (a : CueAction) (s : State) : CausesKept s (doAction a s).1 := by
  cases a
  case announce p q r n => exact offerEntry_keeps _ s
  all_goals exact .of_eq (Eq.refl _)

theorem scanOnce_keeps (t : Trigger) (s : State) : CausesKept s (scanOnce t s).1 := by
  have h : ∀ (l : List (Fin 32)) (acc : Raised), CausesKept acc.1 (l.foldl (scanCue t) acc).1 := by
    intro l
    induction l with
    | nil => intro acc; exact .rfl _
    | cons i l ih =>
      intro acc
      refine CausesKept.trans ?_ (ih _)
      unfold scanCue; dsimp only; split
      · exact doAction_keeps _ _
      · exact .rfl _
  exact h (List.finRange 32) (s, [])

theorem raise_keeps (t : Trigger) (s : State) : CausesKept s (raise t s) :=
  (scanOnce_keeps t s).trans
    (foldl_touches CausesKept .rfl (fun h1 h2 => h1.trans h2) _ (fun s t => scanOnce_keeps t s) _ _)

theorem raiseAll_keeps (r : Raised) : CausesKept r.1 (raiseAll r) :=
  foldl_touches CausesKept .rfl (fun h1 h2 => h1.trans h2) _ (fun s t => raise_keeps t s) _ _

theorem offer_keeps (e : Entry) (s : State) : CausesKept s (offer e s) :=
  (offerEntry_keeps e s).trans (raiseAll_keeps _)

theorem tryCue_keeps (s : State) : CausesKept s (tryCue s) := by
  unfold tryCue; split
  · exact .rfl s
  · exact (cueEntry_keeps _ s).trans (raiseAll_keeps _)

theorem finishEntry_keeps (e : Entry) (s : State) : CausesKept s (finishEntry e s) := by
  unfold finishEntry; dsimp only; split <;> exact (offerReport_keeps _ s).trans (.of_eq (Eq.refl _))

theorem leaveTrailing_keeps (s : State) : CausesKept s (leaveTrailing s) := by
  unfold leaveTrailing; split
  · exact .rfl s
  · exact (finishEntry_keeps _ s).trans ((raise_keeps _ _).trans (tryCue_keeps _))

theorem startPlaying_keeps (s : State) : CausesKept s (startPlaying s) :=
  have h : CausesKept s (becomePlaying s) := .of_eq (Eq.refl _)
  h.trans (raise_keeps _ _)

theorem chimeEnded_keeps (s : State) : CausesKept s (chimeEnded s) := by
  unfold chimeEnded; split
  · exact .rfl s
  · split
    · split
      · exact .of_eq (Eq.refl _)
      · split
        · exact startPlaying_keeps s
        · exact .rfl s
    · exact .rfl s

theorem announceTimers_keeps (s : State) : CausesKept s (announceTimers s) := by
  unfold announceTimers; split
  · exact .rfl s
  · dsimp only; split
    · split
      · exact (ann_keeps _ s).trans (abortActive_keeps _ _)
      · exact ann_keeps _ s
    · split
      · split
        · exact (ann_keeps _ s).trans (abortActive_keeps _ _)
        · exact ann_keeps _ s
      · exact .rfl s

theorem holdoffTick_keeps (s : State) : CausesKept s (holdoffTick s) := by
  unfold holdoffTick; exact ⟨fun _ h => h, Eq.refl _⟩

theorem tickUsers_keeps (s : State) : CausesKept s (tickUsers s) := by
  unfold tickUsers
  exact (holdoffTick_keeps s).trans ((announceTimers_keeps (holdoffTick s)).trans (tryCue_keeps (announceTimers (holdoffTick s))))

theorem setCause_causesKept {c : Cause} {s t : State} (h : t.notices = s.notices) :
    CausesKept (setCause c s) (setCause c t) := .of_eq (by
  simp only [setCause, State.withNotices_notices, h])

theorem healthFalls_keeps (s : State) : CausesKept (setCause .trunkLost s) (healthFalls s) := by
  unfold healthFalls; dsimp only
  refine CausesKept.trans (setCause_causesKept
    (t := (s.withDog ⟨.lost, 0, 0, false⟩).withStore ⟨[], false, s.store.last⟩) (Eq.refl _)) ?_
  exact (abortActive_keeps _ _).trans ((lights_keeps _ _).trans (raise_keeps _ _))

theorem healthRises_keeps (s : State) : CausesKept (setCause .trunkRestored s) (healthRises s) := by
  unfold healthRises; dsimp only
  refine CausesKept.trans (setCause_causesKept (t := s.withDog ⟨.ok, 0, 0, false⟩) (Eq.refl _)) ?_
  exact (lights_keeps _ _).trans ((tryCue_keeps _).trans ((raise_keeps _ _).trans (tryCue_keeps _)))

end Sys2Proof.Machine
end

