-- ==== Sys2Proof/WellFormed.lean ====
section
/-! DEFINITION. Which commands are well formed: the operands a row's name excludes. A message's fields are not checked
here: the manual judges them (R26), so an ill-formed message is a command with a meaning. -/

namespace Sys2Proof

/-- A reading that the ambient light input takes as INVALID (R180). -/
def invalidReading (x : BitVec 8) : Bool := x == 0#8 || x == 255#8

/-- Whether a command's operands agree with its row's name. -/
def WellFormed (i : Instr) : Bool :=
  match i with
  | .unknownMessage _ kind _ => (Machine.kindOf kind).isNone
  | .bandConfirmed x => !invalidReading x
  | .sensorJudgedInvalid x => invalidReading x
  | .powerOn _ => true
  | .resetAssert => true
  | .resetRelease _ => true
  | .trunkWord _ => true
  | .localTick _ => true
  | .healthLost _ => true
  | .healthRestored _ => true
  | .outputFrame _ => true
  | .meterBlockEnd _ => true
  | .silenceEnd _ => true
  | .fadeSwitch _ _ => true
  | .fadeInComplete _ _ => true
  | .seatReplyWord _ _ => true
  | .jackConfirmed _ _ => true
  | .boxLost _ _ => true
  | .boxRegained _ _ => true
  | .callHoldoffExpiry _ _ => true
  | .returnInWord _ => true
  | .lightTick => true
  | .overlayEnd _ => true
  | .routeTick => true
  | .positionStale => true
  | .announceCue => true
  | .notBeforeReached _ => true
  | .chimeNoteEnd _ => true
  | .chimeEnd _ => true
  | .cueTimeout _ => true
  | .maxPlayTime _ => true
  | .trailingEnd _ => true
  | .ambientSample _ => true
  | .setLane _ _ => true
  | .setCarousel _ _ => true
  | .readLanes _ _ => true
  | .setSeatLine _ _ => true
  | .readLine _ _ => true
  | .setSeat _ _ => true
  | .setSeatRange _ _ => true
  | .readSeat _ _ => true
  | .setAudio _ _ => true
  | .setRoute _ _ => true
  | .writeStops _ _ => true
  | .readStops _ _ => true
  | .positionFix _ _ _ _ _ => true
  | .positionInvalid _ _ _ _ _ => true
  | .tourStart _ _ => true
  | .tourPause _ _ => true
  | .tourResume _ _ => true
  | .tourEnd _ _ => true
  | .announce _ _ => true
  | .clipStart _ _ => true
  | .clipEnd _ _ => true
  | .cancelTicket _ _ => true
  | .cancelEntry _ _ => true
  | .cancelAll _ _ => true
  | .setChime _ _ => true
  | .setAnnounce _ _ => true
  | .readQueue _ _ => true
  | .setScene _ _ => true
  | .setPattern _ _ => true
  | .applyScene _ _ => true
  | .setZones _ _ => true
  | .readZones _ _ => true
  | .setCue _ _ => true
  | .marker _ _ => true
  | .readCues _ _ => true
  | .setAmbient _ _ => true
  | .readStatus _ _ _ => true
  | .readStatusClear _ _ _ => true
  | .setNotices _ _ => true
  | .clearNotices _ _ => true
  | .readNotices _ _ => true
  | .setProfile _ _ => true
  | .restart _ _ => true

end Sys2Proof
end

