-- ==== Sys2Proof/Tests/Slice0.lean ====
section
/-! SUPPORT. The model's own tests: ill-formed commands, one-step tests whose values are the manual's own worked examples
(named by their rule or section), and for each statement with hypotheses a concrete state that meets them. -/

namespace Sys2Proof.Tests

set_option Elab.async false

open Sys2Proof.Machine

/-! ## Small states -/

/-- The state that a command answers. -/
def after (c : Instr) (s : State) : State :=
  match exec c s with
  | .next t => t
  | .fault _ => s
  | .refused _ => s

/-- The reset state. -/
def base : State := State.reset

/-- A head addressed to unit 0 with tag 3. -/
def toUs : MsgHead := ⟨0, 3, 0, false⟩

/-- Both things of a frame first. -/
def early : FrameOrder := ⟨Vector.replicate 4 true, true⟩

/-- Trunk health OK, with a good frame since the last local tick. -/
def healthy (s : State) : State := s.withDog ⟨.ok, 0, 0, true⟩

/-- The trunk receiver LOCKED with the words of a frame so far. -/
def inFrame (lock : LockState) (pos missRun : Nat) (words : List Word) (s : State) : State :=
  s.withTrunk { s.trunk with rx := ⟨lock, pos, missRun, words⟩ }

/-- Line 0 with box 0 awaited and the words that have come. -/
def polled (words : List Word) (s : State) : State :=
  s.withLines (setAt s.lines 0 { s.lines[(0 : Fin 4)] with poll := some ⟨0, words, false⟩ })

/-- Line 0 with box 0 in a reach state. -/
def boxed (b : BoxState) (s : State) : State :=
  s.withLines (setAt s.lines 0 { s.lines[(0 : Fin 4)] with boxes := setAt s.lines[(0 : Fin 4)].boxes 0 b })

/-- The reset state with `n` reports waiting and the report loss counter at its end. -/
def waiting (n : Nat) : State := base.withReports ⟨List.replicate n ⟨0x0E, 0, [12]⟩, 65535⟩

/-- Record `i` replaced. -/
def seated (i : Fin 65) (f : SeatRecord → SeatRecord) (s : State) : State :=
  s.withSeats { s.seats with records := setAt s.seats.records i (f s.seats.records[i]) }

/-- The lane table and carousel of section 3.3. -/
def programmed (s : State) : State :=
  s.withProg ⟨⟨#[⟨.commentary, 5, 32767, 4⟩, ⟨.commentary, 12, 32767, 4⟩, ⟨.commentary, 20, 29204, 4⟩,
    ⟨.commentary, 5, 32767, 4⟩, ⟨.bed, 0, 9830, 4⟩, ⟨.announce, 5, 32767, 4⟩, ⟨.announce, 12, 32767, 4⟩,
    ⟨.announce, 20, 32767, 4⟩, ⟨.announce, 33, 32767, 4⟩, ⟨.unused, 0, 32767, 4⟩, ⟨.unused, 0, 32767, 4⟩,
    ⟨.unused, 0, 32767, 4⟩], rfl⟩, [5, 12, 20, 33, 41]⟩

/-- A GENERAL entry of phrase 7, priority 1, two plays left, ticket 31 and the plan of section 11.3. -/
def entry (st : EntryState) : Entry :=
  ⟨.general, 7, 1, .count, 2, none, 0, st, 31, some [⟨5, 5⟩, ⟨12, 6⟩], false, false, none⟩

/-- The queue of announcements, with the timers and chime of the reset state. -/
def queued (q : List Entry) (s : State) : State := setQueue q s

/-- A chime of one note of section 8.6, at a frame index. -/
def chiming (notes : List Note) (frame : Nat) (s : State) : State :=
  s.withAnn { s.ann with chime := some ⟨0, notes, 0, frame⟩ }

/-- The stop 14 of section 7.2. -/
def stop14 : Stop := ⟨14, 3400, 300, 20, true, true, 1, .countWhileHalted, 2, .pending⟩

/-- The route of section 7.2: a LOOP of 12000 m, RUNNING and seeded, with stop 14. -/
def routed (estimate : Nat) (s : State) : State :=
  s.withRoute ⟨12000, true, 50, 50, estimate, 0, 800, 0, .fresh, true, 0, [stop14], .running⟩

/-- A table whose only enabled cue is one at `j`, which asks for no relation of the light. -/
def oneCue (j : Fin 32) (k : TriggerKind) (param : Nat) (a : CueAction) (s : State) : State :=
  let off : Cue := ⟨false, .marker, 0, 0, 0, .scene 0⟩
  s.withCues { s.cues with table := setAt (Vector.replicate 32 off) j ⟨true, k, param, 0xF#4, 0, a⟩ }

theorem oneCue_one (j : Fin 32) (k : TriggerKind) (param : Nat) (a : CueAction) (s : State) :
    OneCue j k param a (oneCue j k param a s) := by
  refine ⟨?_, fun i h => ?_⟩
  · exact Vector.getElem_set_self ..
  · have : j.val ≠ i.val := fun e => h (Fin.ext e.symm)
    show ((Vector.replicate 32 (_ : Cue)).set j.val _ j.isLt)[i.val].enabled = false
    rw [Vector.getElem_set_ne j.isLt i.isLt this, Vector.getElem_replicate]

/-! ## Ill-formed commands -/

/-- A kind that is a control message's is not UNKNOWN_MESSAGE's (R26). -/
theorem test_ill_formed_unknown_kind : WellFormed (.unknownMessage toUs 0x01#6 []) = false := by decide

/-- 0x05 is no message's kind (R29). -/
theorem test_well_formed_unknown_kind : WellFormed (.unknownMessage toUs 0x05#6 []) = true := by decide

/-- A reading at a rail confirms no band (R180). -/
theorem test_ill_formed_band : WellFormed (.bandConfirmed 0#8) = false ∧ WellFormed (.bandConfirmed 255#8) = false := by
  decide

/-- A reading within the rails is not INVALID (R180). -/
theorem test_ill_formed_sensor : WellFormed (.sensorJudgedInvalid 1#8) = false ∧
    WellFormed (.sensorJudgedInvalid 254#8) = false := by decide

/-! ## The manual's worked examples -/

/-- R94: the scaling operation's examples. -/
theorem test_scale : scale 1 16384 = 1 ∧ scale (-1) 16384 = 0 ∧ scale (-18000) 32767 = -17999 := by decide

/-- Section 6.9: a ducked commentary under a playing announcement. -/
theorem test_mix_ducked : stages ⟨20000, 32767⟩ .none ⟨-18000, 32767⟩ 0 8191 32767 16422 20675 = -8851 := by decide

/-- R1, forming a check word: the frame is good, and its lanes are as they were sent. -/
theorem test_trunk_frame :
    let t := after (.trunkWord 0xAEF9) (inFrame .locked 14 0
      [0x8000, 0x5007, 0x03E8, 0xFC18, 0x0100, 0, 0, 0, 0, 0, 0, 0, 0, 0, 0] base)
    t.trunk.lastGood.samples.toList = [1000, -1000, 256, 0, 0, 0, 0, 0, 0, 0, 0, 0] ∧ t.trunk.lastSeq = 5 ∧
      t.trunk.badRun = 0 ∧ t.counters.badFrames = 0 := by decide +kernel

/-- Section 2.2, one message through the decoder: unit 1, kind 0x39, tag 3. -/
theorem test_header : headOf 0x3C98 false = ⟨1, 3, 0, false⟩ ∧ headerKind 0x3C98 = 0x39#6 := by decide

/-- The same message through the control slot: the enables TRUNK_LOST and REPORT_LOST. -/
theorem test_message_through_decoder :
    (([0x0000, 0x1B1B, 0x0001, 0x3C98, 0x0021, 0x1B1B, 0x0002] : List Word).foldl (fun s w => controlWord w s)
      (base.withPins { base.pins with unit := 1 })).notices.enables = 0x021 := by decide +kernel

/-- A unit strapped as 0 drops the message at its header. -/
theorem test_message_for_another_unit :
    (([0x1B1B, 0x0001, 0x3C98] : List Word).foldl (fun s w => controlWord w s) base).decoder.state = .discard := by
  decide +kernel

/-- Section 4.2, one reply: left HEADSET at 140, right NONE at 231, and VOL_UP of the right seat. -/
theorem test_seat_reply :
    let t := after (.seatReplyWord 0 0x1754) (polled [0x8000, 0x0120, 0xE78C] base)
    t.lines[(0 : Fin 4)].jacks[(0 : Fin 16)] = ⟨none, some .headset, 1, 140⟩ ∧
      t.lines[(0 : Fin 4)].jacks[(1 : Fin 16)] = ⟨none, some .unplugged, 1, 231⟩ ∧
      t.seats.records[(1 : Fin 65)].step = 10 ∧ t.seats.records[(0 : Fin 65)].step = 9 := by decide +kernel

/-- Section 5.3, repeated calls: the first call of seat 26 queues Seat Call and sets the holdoff. -/
theorem test_seat_call :
    let t := deliverKeys 26 ⟨false, false, false, false, true⟩ base
    t.reports.queue = [⟨0x0E, 0, [26]⟩] ∧ t.seats.records[(26 : Fin 65)].holdoff = 2000 ∧
      (deliverKeys 26 ⟨false, false, false, false, true⟩ t).reports = t.reports := by decide +kernel

/-- Section 5.5, a passenger changes their mind: frame 1 of the crossfade. -/
theorem test_crossfade_begins :
    crossfade (programmed base).prog ⟨true, some 12, some 0, .steady, 32767, 9, false, false, 0⟩ =
      ⟨true, some 12, some 0, .fadeOut, 32639, 9, false, false, 0⟩ := by decide +kernel

/-- The same at frame 256: the lane is switched at gain 0. -/
theorem test_fade_switch :
    let s := seated 12 (fun _ => ⟨true, some 20, some 0, .fadeOut, 127, 9, false, false, 0⟩) (programmed base)
    (after (.fadeSwitch 12 early) s).seats.records[(12 : Fin 65)] =
      ⟨true, some 20, some 2, .fadeIn, 0, 9, false, false, 0⟩ := by decide +kernel

/-- The end of a fade-in (R84). -/
theorem test_fade_in_complete :
    let s := seated 12 (fun _ => ⟨true, some 20, some 2, .fadeIn, 32640, 9, false, false, 0⟩) (programmed base)
    (after (.fadeInComplete 12 early) s).seats.records[(12 : Fin 65)] =
      ⟨true, some 20, some 2, .steady, 32767, 9, false, false, 0⟩ := by decide +kernel

/-- Section 5.6, locking a school party's seats: mask 0x000C, volume 6, locks 3. -/
theorem test_set_seat_range :
    let t := after (.setSeatRange toUs (payload [16, 31, 0x000C, 0, 0, 6, 3, 0])) base
    (t.seats.records[(16 : Fin 65)].step, t.seats.records[(16 : Fin 65)].languageLock,
      t.seats.records[(31 : Fin 65)].volumeLock, t.seats.records[(32 : Fin 65)].step,
      t.seats.records[(64 : Fin 65)].step) = (6, true, true, 9, 9) := by decide +kernel

/-- Section 3.3: the commentary lanes of the five languages. -/
theorem test_commentary_lanes :
    ([5, 12, 20, 33, 41].map fun t => commentaryLane (programmed base).prog (some t)) =
      [some 0, some 1, some 2, none, none] := by decide +kernel

/-- Section 3.3: four ANNOUNCE lanes stand, so a fifth is refused FULL; the Reply says so. -/
theorem test_set_lane_full :
    (after (.setLane toUs (payload [9, 2, 7, 32767, 4])) (programmed base)).reports.queue.map (·.payload) =
      [[0x01, 6]] := by decide +kernel

/-- Section 3.6, replacing the carousel: a language that is no member becomes the default, German. -/
theorem test_set_carousel :
    let s := seated 4 (fun r => { r with language := some 20 }) (seated 3 (fun r => { r with language := some 5 })
      (programmed base))
    let t := after (.setCarousel toUs (payload [3, 12, 5, 41])) s
    t.prog.carousel = [12, 5, 41] ∧ t.seats.records[(3 : Fin 65)].language = some 5 ∧
      t.seats.records[(4 : Fin 65)].language = some 12 := by decide +kernel

/-- Section 7.2: 20 ms at 800 cm/s are 16 cm. -/
theorem test_route_tick : (after .routeTick (routed 305000 base)).route.estimate = 305016 := by decide +kernel

/-- Section 7.2: Position 310,400 at 800 cm/s makes stop 14 APPROACHED and its entry waits. -/
theorem test_position_approach :
    let t := after (.positionFix toUs 4 48256 800 []) (routed 305800 base)
    t.route.estimate = 310400 ∧ t.route.stops.map (·.lap) = [.approached] ∧
      t.ann.queue.map (fun e => (e.kind, e.subject, e.state)) = [(.approach, 14, .waiting)] := by decide +kernel

/-- Section 7.2: the tick after 150 makes the position STALE and moves nothing. -/
theorem test_position_stale :
    let s := routed 312800 base
    let t := after .positionStale (s.withRoute { s.route with age := 150, status := .deadReckoned })
    t.route.estimate = 312800 ∧ t.route.age = 151 ∧ t.route.status = .stale := by decide +kernel

/-- Section 7.2: Position 312,100 at 300 cm/s is a small correction backward. -/
theorem test_position_small_correction :
    let t := after (.positionFix toUs 4 49956 300 []) (routed 312800 base)
    t.route.estimate = 312100 ∧ t.route.laps = 0 := by decide +kernel

/-- Section 8.2, building a plan: German, Japanese and Spanish listen, the PA on English. -/
theorem test_plan :
    givePairs (programmed base).prog 5 [12, 33, 41] = [⟨5, 5⟩, ⟨12, 6⟩, ⟨33, 8⟩, ⟨41, 7⟩] := by decide +kernel

/-- Section 8.1, a full queue meets an urgent announcement: Dropped, Abort and Cue, in this order. -/
theorem test_eviction_and_preemption :
    let waiting (k : EntryKind) (n p t : Nat) : Entry := ⟨k, n, p, .once, 0, none, t, .waiting, 0, none, false, false, none⟩
    let s := queued [waiting .arrival 14 2 100, waiting .approach 15 2 140,
      { entry .playing with subject := 40, ticket := 20 }, waiting .general 30 1 120, waiting .general 31 0 60,
      waiting .general 32 0 130] (healthy (programmed base))
    let t := after (.announce { toUs with tag := 0 } (payload [90, 3, 0, 0]))
      ((s.withNow 200).withAnn { s.ann with ticket := 20 })
    t.reports.queue.map (fun r => (r.kind, r.payload.head?)) = [(0x37, some 2), (0x35, some 20), (0x34, some 21)] ∧
      t.ann.queue.map (·.subject) = [90, 14, 15, 40, 30, 31] := by
  decide +kernel

/-- Section 8.6, one note: divider 8, 20 ms, level 16000. -/
theorem test_chime_samples :
    ([0, 7, 8, 160, 319].map fun f => chimeSample (some ⟨0, [⟨8, 20, 16000⟩], 0, f⟩)) =
      [16000, 15650, -15600, 8000, -50] := by decide +kernel

/-- Section 8.3: the chime's end, with no cue enabled and clip-started set, makes the entry PLAYING. -/
theorem test_chime_end :
    let s := chiming [⟨8, 20, 16000⟩] 319 (queued [{ entry .cued with clipStarted := true }] base)
    announceState (after (.chimeEnd early) s) = some .playing := by decide +kernel

/-- Section 8.5, the replay: Ended (7, SILENCE), count 1, not-before 2000 ms after the end. -/
theorem test_replay :
    let e : Entry := { entry .trailing with ticket := 7, reason := some .silence }
    let t := after (.trailingEnd early) ((queued [e] base).withNow 5024)
    t.ann.queue.map (fun e => (e.state, e.ticket, e.count, e.notBefore)) = [(.waiting, 0, 1, some 7024)] ∧
      t.reports.queue = [⟨0x36, 0, [7, 2]⟩] := by decide +kernel

/-- Section 11.5: the twentieth silent tick; the active entry is aborted with TRUNK. -/
theorem test_health_lost :
    let s := (queued [{ entry .playing with ticket := 40 }] base).withDog ⟨.ok, 19, 0, false⟩
    let t := after (.healthLost true) s
    t.dog.health = .lost ∧ t.ann.queue.map (·.state) = [.trailing] ∧ t.reports.queue = [⟨0x35, 0, [40, 6]⟩] := by
  decide +kernel

/-- Section 11.5: the two hundredth good tick; the next entry is cued with ticket 41. -/
theorem test_health_restored :
    let s := ((queued [{ entry .waiting with plan := none, ticket := 0 }] (programmed base)).withDog ⟨.lost, 0, 199, true⟩)
    let t := after (.healthRestored true) (s.withAnn { s.ann with ticket := 40 })
    t.dog.health = .ok ∧ t.ann.queue.map (fun e => (e.state, e.ticket)) = [(.cued, 41)] := by decide +kernel

/-- Section 1.6, one lane across two blocks: a peak of 600 is level 10 and of 11 level 4, quiet at silence level 4. -/
theorem test_meter_block_end :
    let s := base.withMeter ⟨Vector.ofFn fun i : Fin 12 => ⟨if i = 4 then 600 else 11, 0, false⟩, 255⟩
    let t := after (.meterBlockEnd early) s
    t.meter.lanes[(4 : Fin 12)] = ⟨0, 10, false⟩ ∧ t.meter.lanes[(5 : Fin 12)] = ⟨0, 4, true⟩ ∧ t.meter.blockPos = 0 := by
  decide +kernel

/-- Section 1.5, a fast head unit: an arrival at a full store drops f12, its front frame. -/
theorem test_drop_slip :
    let f (n : Nat) : LaneFrame := ⟨BitVec.ofNat 12 n, Vector.replicate 12 0⟩
    let t := storeJoin (f 16) ((healthy base).withStore ⟨[f 12, f 13, f 14, f 15], true, f 11⟩)
    t.store.frames = [f 13, f 14, f 15, f 16] ∧ t.counters.dropSlips = 1 ∧ t.notices.causes = 0x008 := by decide +kernel

/-- R104, R105: the volume gain of step 9 is 8231, of step 6 4125 and of step 12 16422 (sections 5.6 and 6.9). -/
theorem test_volume_table : (volumeGain 9, volumeGain 6, volumeGain 11, volumeGain 12, volumeGain 13) =
    (8231, 4125, 13045, 16422, 20675) := by decide

/-- R106: depth 2 ducks to 8191 (section 6.9). -/
theorem test_depth_gain : depthGain 2 = 8191 ∧ depthGain 8 = 0 := by decide

/-- Section 9.3, one scene with overlapping items. -/
theorem test_apply_scene :
    let s := base.withDog ⟨.ok, 0, 0, true⟩
    let l := { s.lights with
      zones := Vector.replicate 16 ⟨200, 1, none, 200⟩
      scenes := setAt s.lights.scenes 3 [⟨⟨9, 15⟩, 800, 1000⟩, ⟨⟨15, 1⟩, 0, 250⟩] }
    let t := after (.applyScene toUs (payload [3])) (s.withLights l)
    ([9, 14, 15, 0, 1, 2] : List (Fin 16)).map (fun i => (t.lights.zones[i].base, t.lights.zones[i].fadeStep)) =
      [(800, 6), (800, 6), (0, 8), (0, 8), (0, 8), (200, 1)] ∧ t.lights.current = some 3 := by decide +kernel

/-- Section 9.5, the trunk lost on a night deck: the first light tick from 0 and from 100 toward the floor. -/
theorem test_light_tick :
    let s := base.withLights { base.lights with
      zones := setAt (Vector.replicate 16 ⟨0, 18, none, 0⟩) 0 ⟨100, 14, none, 100⟩ }
    let t := after .lightTick s
    (t.lights.zones[(2 : Fin 16)].current, t.lights.zones[(0 : Fin 16)].current) = (18, 114) ∧
      t.out.lightOut.length = 18 ∧ sumWords t.out.lightOut.tail = 0 := by decide +kernel

/-- Section 9.5, a blink: pattern 0x00FF of step length 5, two cycles; the overlay's last tick. -/
theorem test_overlay_end :
    let s := (healthy base).withLights { base.lights with
      zones := setAt base.lights.zones 12 ⟨400, 4, some ⟨1, 1023, 300, 15, 4, 1⟩, 300⟩
      patterns := setAt base.lights.patterns 1 (some ⟨0x00FF, 5, 2⟩) }
    (after (.overlayEnd 12) s).lights.zones[(12 : Fin 16)] = ⟨400, 4, none, 300⟩ := by decide +kernel

/-- Section 10.1, the light fails at dusk: 120 and 60 smooth to 113, then 106. -/
theorem test_smoothing : smooth (some 120) 60 = 113 ∧ smooth (some 113) 60 = 106 ∧ smooth none 60 = 60 := by decide

/-- The same at sample 13: the band DUSK is confirmed with run 10. -/
theorem test_band_confirmed :
    let s := base.withCues { base.cues with
      ambient := ⟨60, some 72, some .dusk, 9, 0, some .day, 32, 96, 192, 1⟩ }
    let t := after (.bandConfirmed 60) s
    t.cues.ambient.confirmed = some .dusk ∧ t.cues.ambient.run = 10 ∧ t.cues.ambient.smoothed = some 71 := by
  decide +kernel

/-- Section 10.3, the trunk lost at dusk: cue 9, UNORDERED and LESS against 100, acts at 71; cue 5, GREATER 150, does not. -/
theorem test_trunk_lost_cues :
    let cue5 : Cue := ⟨true, .trunkLost, 0, 4, 150, .clear ⟨0, 15⟩⟩
    let cue9 : Cue := ⟨true, .trunkLost, 0, 9, 100, .paSource .announceOnly⟩
    let s := base.withCues { base.cues with
      table := setAt (setAt base.cues.table 5 cue5) 9 cue9, ambient := { base.cues.ambient with smoothed := some 71 } }
    let t := after (.healthLost true) (s.withDog ⟨.ok, 19, 0, false⟩)
    t.seats.paSource = .announceOnly := by decide +kernel

/-- Section 11.7: a Read Seat Reply waits, and the first return frame carries ESC in the reply slot. -/
theorem test_reply_slot :
    (after (.outputFrame early) (after (.readSeat toUs (payload [12])) base)).out.returnOut.getD 6 0 = 0x1B1B := by
  decide +kernel

/-- R192: the straps give the unit number and the profile. -/
theorem test_power_on : (after (.powerOn ⟨⟨2, true⟩, true⟩) base).pins = ⟨.running, false, 2, .lenient⟩ := by decide +kernel

/-- R193: from the application of power until the power-on values stand the words pass through, and they stay on the
outputs; the straps are those of the application. -/
theorem test_powering :
    let s := after (.returnInWord 0x1234) (after (.trunkWord 0x5678) (after (.powerOn ⟨⟨2, true⟩, false⟩) base))
    s.out.returnOut = [0x1234] ∧ s.out.trunkOut = some 0x5678 ∧
      (after (.powerOn ⟨⟨0, false⟩, true⟩) s).pins = ⟨.running, false, 2, .lenient⟩ := by decide +kernel

/-- R69, R57: in one output frame line 0 judges its sixteenth missed poll before the mix and line 1 after it, so seat 0 is
silent and seat 16 still hears the chime; R101: the PA record's word stands in both channel slots. -/
theorem test_polls_by_line :
    let box (l : SeatLine) : SeatLine := { l with
      poll := some ⟨0, [], false⟩, boxes := setAt l.boxes 0 ⟨.reachable, 15, 0⟩
      jacks := setAt l.jacks 0 ⟨some .headset, none, 0, 140⟩ }
    let s := chiming [⟨8, 20, 16000⟩] 0 (base.withLines (mapTable box base.lines))
    let t := after (.outputFrame ⟨setAt (Vector.replicate 4 false) 0 true, true⟩) s
    t.out.seatOut[(0 : Fin 4)][1]? = some 0 ∧ t.out.seatOut[(1 : Fin 4)][1]? = some 4019 ∧ t.out.paOut = ⟨4019, 4019⟩ ∧
      t.lines[(1 : Fin 4)].boxes[(0 : Fin 8)].reach = .lost := by decide +kernel

/-- R193: while the pin is held a word on return-in is passed through. -/
theorem test_reset_held :
    let s := after .resetAssert base
    (after (.returnInWord 0x1234) s).out.returnOut = [0x1234] ∧
      (after (.trunkWord 0x5678) s).out.trunkOut = some 0x5678 := by decide +kernel

/-- R26: a length below the required one is refused LENGTH, a kind without a message UNKNOWN_KIND. -/
theorem test_refusals :
    (after (.setZones toUs (payload [1])) base).reports.queue.map (·.payload) = [[0x2B, 2]] ∧
      (after (.unknownMessage toUs 0x05 []) base).reports.queue.map (·.payload) = [[0x05, 1]] := by decide +kernel

/-! ## States that meet the hypotheses of the statements

Each theorem `witness_<Name>` shows a state and operands that meet all the hypotheses of `Obligations.<Name>`, clause by
clause where it has several, at a boundary value where a clause has a range. -/

/-- A message to this unit is taken at reset. -/
theorem addressed_base : Addressed toUs base := ⟨rfl, .inl rfl, rfl, rfl⟩

/-- So is one that is broadcast. -/
theorem addressed_broadcast : Addressed { toUs with unit := 7 } base := ⟨rfl, .inr rfl, rfl, rfl⟩

/-- No cue is enabled at reset. -/
theorem quiet_base : QuietCues base := by unfold QuietCues; decide +kernel

theorem witness_StepRunsFrontCommand : (base.withPending [.lightTick]).pending = .lightTick :: [] ∧ base.pending = [] :=
  ⟨rfl, rfl⟩

theorem witness_EachStepKeepsToItsBlocks : isMessage (.restart toUs []) = true := rfl

/-- The reset pin held, and power applied with the power-on values not standing yet. -/
theorem witness_HeldPartOnlyPassesWordsThrough :
    (after .resetAssert base).pins.held = true ∧ (after .resetAssert base).pins.passThrough = true ∧
      (after (.powerOn ⟨⟨1, false⟩, false⟩) base).pins.held = true ∧
      (∀ p, Instr.lightTick ≠ .powerOn p) ∧ Instr.lightTick ≠ .resetAssert ∧
      (∀ st, Instr.lightTick ≠ .resetRelease st) ∧ (∀ w, Instr.lightTick ≠ .trunkWord w) ∧
      ∀ w, Instr.lightTick ≠ .returnInWord w := by
  refine ⟨rfl, rfl, rfl, fun _ h => ?_, by decide, fun _ h => ?_, fun _ h => ?_, fun _ h => ?_⟩ <;> cases h

/-- The state before and after the application of power that POWER_ON in two commands gives. -/
theorem witness_ResetPinAndPowerOnSetTheOutputs :
    base.pins.phase ≠ .powering ∧ (after (.powerOn ⟨⟨1, false⟩, false⟩) base).pins.phase = .powering := by decide +kernel

/-- A word within a frame is a sync code in LOCKED and in FLYWHEEL as well, at both ends of the positions it may have. -/
theorem witness_LockFollowsTheSyncWords :
    base.pins.held = false ∧ base.trunk.rx.lock = .hunt ∧ (0x7FFF#16 : Word) ≠ 0x8000#16 ∧
      (inFrame .verify 14 0 [] base).trunk.rx.pos < 15 ∧ (inFrame .verify 15 0 [] base).trunk.rx.pos = 15 ∧
      (inFrame .locked 13 0 [] base).trunk.rx.lock = .locked ∧ (inFrame .locked 13 0 [] base).trunk.rx.pos < 14 ∧
      (inFrame .flywheel 0 1 [] base).trunk.rx.lock = .flywheel ∧ (inFrame .flywheel 0 1 [] base).trunk.rx.pos < 14 ∧
      (inFrame .locked 15 0 [] base).trunk.rx.pos = 15 ∧
      (inFrame .flywheel 15 1 [] base).trunk.rx.missRun = 1 ∧ (inFrame .flywheel 15 2 [] base).trunk.rx.missRun = 2 := by
  decide

/-- The frame of section 1.1 at its W15, health OK and the store full or one short of it; its control word is FILL. -/
theorem witness_GoodFrameIsTakenAndCounted :
    let s (n : Nat) := inFrame .locked 14 0 [0x8000, 0x5007, 0x03E8, 0xFC18, 0x0100, 0, 0, 0, 0, 0, 0, 0, 0, 0, 0]
      ((healthy base).withStore ⟨List.replicate n .absent, true, .absent⟩)
    (s 4).pins.held = false ∧ (s 4).trunk.rx.lock = .locked ∧ (s 4).trunk.rx.pos = 14 ∧
      (s 4).trunk.rx.words.length = 15 ∧ sumWords ((s 4).trunk.rx.words ++ [0xAEF9]).tail = 0 ∧
      (s 4).dog.health = .ok ∧ 4 ≤ (s 4).store.frames.length ∧ (s 3).store.frames.length < 4 ∧
      (s 4).trunk.rx.words.getD 14 0 = 0 ∧ (s 4).decoder.esc = false := by decide +kernel

/-- The same frame with a damaged check word, and any frame in FLYWHEEL. -/
theorem witness_BadFrameIsConcealed :
    let s := inFrame .locked 14 0 [0x8000, 0x5007, 0x03E8, 0xFC18, 0x0100, 0, 0, 0, 0, 0, 0, 0, 0, 0, 0] base
    s.pins.held = false ∧ s.trunk.rx.pos = 14 ∧
      (s.trunk.rx.lock = .locked ∧ sumWords (s.trunk.rx.words ++ [0xAEF8]).tail ≠ 0) ∧
      (inFrame .flywheel 14 1 [] base).trunk.rx.lock = .flywheel := by decide +kernel

theorem witness_LocalTickCountsDownHoldoffs :
    let s := seated 64 (fun r => { r with holdoff := 1 }) base
    s.pins.held = false ∧ s.seats.records[(64 : Fin 65)].holdoff = 1 := by decide +kernel

theorem witness_HealthFallsAndRises :
    let s (st : EntryState) := (queued [entry st] base).withDog ⟨.ok, 19, 0, false⟩
    let e : Entry := { entry .waiting with plan := none, ticket := 0, notBefore := some 1 }
    let u := (queued [e] (programmed base)).withDog ⟨.lost, 0, 199, true⟩
    let scanned (k : TriggerKind) := oneCue 31 k 0 (.paSource .off)
    ((s .playing).pins.held = false ∧ (s .playing).dog = ⟨.ok, 19, 0, false⟩ ∧
      activeEntry (s .playing) = some (entry .playing) ∧ activeEntry (s .cued) = some (entry .cued) ∧
      (s .cued).ann.cueTimer + 1 < (s .cued).ann.cueTimeout ∧ (s .cued).ann.playTimer + 1 < 60000 ∧
      (s .cued).cues = base.cues ∧ u.pins.held = false ∧ u.dog = ⟨.lost, 0, 199, true⟩ ∧ u.cues = base.cues ∧
      u.ann.queue = e :: [] ∧ activeEntry u = none ∧ e.notBefore = some (u.now + 1) ∧ buildPlan u ≠ [] ∧
      2 ≤ u.ann.cueTimeout) ∧
      OneCue 31 .trunkLost 0 (.paSource .off) (scanned .trunkLost (s .cued)) ∧
      OneCue 31 .trunkRestored 0 (.paSource .off) (scanned .trunkRestored u) :=
  ⟨by decide +kernel, oneCue_one .., oneCue_one ..⟩

/-- The four rows of R14's table. -/
theorem witness_OutputFrameTakesFromTheStore :
    let s (frames : List LaneFrame) (primed : Bool) := (healthy base).withStore ⟨frames, primed, .absent⟩
    base.pins.held = false ∧ base.dog.health = .lost ∧ (s [.absent] false).store.frames.length < 2 ∧
      (s [.absent, .absent] false).store.frames = .absent :: [.absent] ∧
      (s [.absent] true).store.frames = .absent :: [] ∧ (s [.absent] true).store.primed = true ∧
      (s [] true).store.frames = [] ∧ (s [] true).dog.health = .ok := by decide +kernel

/-- The last frame within a block and the last of one; the largest peak, and none. -/
theorem witness_MeterMeasuresInBlocksOf256Frames :
    let s (pos : Nat) := base.withMeter ⟨Vector.ofFn fun i : Fin 12 => ⟨if i = 0 then 32767 else 0, 0, true⟩, pos⟩
    (s 254).pins.held = false ∧ (s 254).meter.blockPos < 255 ∧ (s 255).meter.blockPos = 255 ∧
      nextPeak (s 255) 0 = 32767 ∧ nextPeak (s 255) 1 = 0 := by decide +kernel

theorem witness_OutputFrameStepsEveryRamp : base.pins.held = false := rfl

/-- The largest fade gain that falls to 0, the smallest that rises to 32767, those next to them, the reversals, and STEADY
records with their target and with another. -/
theorem witness_CrossfadeSwitchesAndCompletes :
    let r (lane : Fin 12) (phase : FadePhase) (fade : Nat) : SeatRecord :=
      ⟨true, some 20, some lane, phase, fade, 9, false, false, 0⟩
    let s (x : SeatRecord) := seated 64 (fun _ => x) (programmed base)
    (programmed base).pins.held = false ∧ commentaryLane (programmed base).prog (some 20) = some 2 ∧
      (s (r 0 .fadeOut 128)).seats.records[(64 : Fin 65)] = r 0 .fadeOut 128 ∧
      (r 0 .fadeOut 128).sounding ≠ some 2 ∧ (r 2 .fadeIn 32639).sounding = some 2 ∧
      (s (r 0 .fadeOut 129)).seats.records[(64 : Fin 65)] = r 0 .fadeOut 129 ∧
      (s (r 2 .fadeIn 32638)).seats.records[(64 : Fin 65)] = r 2 .fadeIn 32638 ∧
      (s (r 2 .fadeOut 32639)).seats.records[(64 : Fin 65)] = r 2 .fadeOut 32639 ∧
      (s (r 0 .fadeIn 128)).seats.records[(64 : Fin 65)] = r 0 .fadeIn 128 ∧
      (s (r 2 .steady 32767)).seats.records[(64 : Fin 65)] = r 2 .steady 32767 ∧
      (s (r 0 .steady 32767)).seats.records[(64 : Fin 65)] = r 0 .steady 32767 := by decide +kernel

/-- Inputs and gains at the ends of their ranges. -/
theorem witness_MixStagesStayInRange :
    (⟨-32767, 32767⟩ : Input).sample.natAbs ≤ 32767 ∧ (⟨-32767, 32767⟩ : Input).trim ≤ 32767 ∧
      (32767 : Int).natAbs ≤ 32767 := by decide

/-- A state with an enabled and a disabled line. -/
theorem witness_OutputFrameSendsCheckedFrames :
    let s := after (.setSeatLine toUs (payload [1, 0, 220, 24, 64])) base
    s.pins.held = false ∧ s.lines[(0 : Fin 4)].enabled = true ∧ s.lines[(1 : Fin 4)].enabled = false := by decide +kernel

/-- Block ends with every plan lane quiet, of an entry heard or not, at the fortieth quiet block end of the power-on hold of
640 ms and at the one before; a block end with a plan lane that is not quiet; and a frame before a block end. -/
theorem witness_SilenceEndsAHeardAnnouncement :
    let e (heard : Bool) : Entry := { entry .playing with heard := heard }
    let s (heard : Bool) (peak pos run : Nat) :=
      ((queued [e heard] (programmed base)).withMeter ⟨Vector.replicate 12 ⟨peak, 0, true⟩, pos⟩).withAnn
        { (queued [e heard] base).ann with silenceRun := run }
    let quiet (s : State) : Prop :=
      ∀ q ∈ (e true).plan.getD [], peakLevel (nextPeak s q.lane) ≤ s.prog.lanes[q.lane].silence
    (s true 0 255 39).pins.held = false ∧ activeEntry (s true 0 255 39) = some (e true) ∧
      activeEntry (s false 0 255 39) = some (e false) ∧ (e true).state = .playing ∧ (e true).plan.getD [] ≠ [] ∧
      quiet (s true 0 255 39) ∧ ¬quiet (s true 16 255 39) ∧ (s true 0 255 39).meter.blockPos = 255 ∧
      (base.ann.silenceHold + 15) / 16 ≤ (s true 0 255 39).ann.silenceRun + 1 ∧
      ¬(base.ann.silenceHold + 15) / 16 ≤ (s true 0 255 38).ann.silenceRun + 1 ∧
      (s true 0 254 39).meter.blockPos < 255 := by decide +kernel

/-- The last frame of a first note, and of a last one with the entry clip-started, without its clip, and without a plan. -/
theorem witness_ChimeGoesThroughItsNotesAndEnds :
    let n : Note := ⟨8, 20, 16000⟩
    let s (e : Entry) (notes : List Note) := chiming notes 319 (queued [e] base)
    let c (notes : List Note) : Chime := ⟨0, notes, 0, 319⟩
    let e1 : Entry := { entry .cued with clipStarted := true }
    let e2 : Entry := { entry .cued with plan := some [] }
    (s e1 [n, n]).pins.held = false ∧ announceState (s e1 [n, n]) = some .cued ∧
      (s e1 [n, n]).ann.chime = some (c [n, n]) ∧ [n, n][0]? = some n ∧ 319 + 1 = n.duration * 16 ∧ 0 + 1 < [n, n].length ∧
      activeEntry (s e1 [n]) = some e1 ∧ activeEntry (s (entry .cued) [n]) = some (entry .cued) ∧
      activeEntry (s e2 [n]) = some e2 ∧ 0 + 1 = [n].length ∧ (s e1 [n]).cues = base.cues := by decide +kernel

/-- Replays by each policy at the last play and without one left, halted and moving; a stop entry that may return and one
that may not; with another entry that may not be cued, or may; and the least duck gain that the power-on release rate of 8
brings to 32767, and the one below it. -/
theorem witness_TrailingEndsAtFullDuckGain :
    let e (p : RepeatPolicy) (n : Nat) (r : Reason) : Entry := { entry .trailing with
      policy := p, count := n, reason := some r }
    let ducked (gain : Nat) (s : State) := s.withMixer { s.mixer with duck := gain }
    let s (e : Entry) := ducked 32759 (queued [e] base)
    let call : Entry := { e .count 2 .clipEnd with kind := .arrival, subject := 14 }
    let arrived := queued [call] ((routed 339850 base).withRoute
      { (routed 339850 base).route with stops := [{ stop14 with lap := .arrived }] })
    let waits (n : Option Nat) : Entry := { entry .waiting with subject := 8, ticket := 0, plan := none, notBefore := n }
    let two (n : Option Nat) := healthy (queued [e .count 2 .silence, waits n] (programmed base))
    ((s (e .count 2 .silence)).pins.held = false ∧ (s (e .count 2 .silence)).cues = base.cues ∧
      activeEntry (s (e .count 2 .silence)) = some (e .count 2 .silence) ∧ base.mixer.duck = 32767 ∧
      (s (e .count 2 .silence)).mixer.duck ≤ 32767 ∧
      32767 ≤ (s (e .count 2 .silence)).mixer.duck + (s (e .count 2 .silence)).mixer.audio.release ∧
      (ducked 32758 (two none)).mixer.duck + (two none).mixer.audio.release < 32767 ∧
      announceState (ducked 32758 (two none)) = some .trailing ∧
      activeEntry (s (e .countWhileHalted 1 .clipEnd)) = some (e .countWhileHalted 1 .clipEnd) ∧
      activeEntry (s (e .whileHalted 0 .clipEnd)) = some (e .whileHalted 0 .clipEnd) ∧
      activeEntry (s (e .once 7 .trunk)) = some (e .once 7 .trunk) ∧ 0 < 2 - 1 ∧ base.route.speed ≤ base.route.haltSpeed ∧
      base.ann.haltUse = true ∧ activeEntry arrived = some call ∧ activeEntry (two (some 9)) = some (e .count 2 .silence) ∧
      (two (some 9)).now < 9 ∧ (two none).dog.health = .ok ∧ announceState (two none) = some .trailing) ∧
      MayReturn base.route (e .count 2 .silence) ∧ ¬MayReturn base.route call ∧ MayReturn arrived.route call ∧
      OneCue 0 .announceEnded 0 (.paSource .off) (oneCue 0 .announceEnded 0 (.paSource .off) (two none)) :=
  ⟨by decide +kernel, .inl rfl, by unfold MayReturn; decide +kernel,
    .inr ⟨rfl, fun st h => .inr ⟨by cases h; rfl, rfl⟩⟩, oneCue_one ..⟩

theorem witness_BoxIsLostAndRegained :
    let s := polled [] (boxed ⟨.reachable, 15, 255⟩ base)
    let u := polled [0x8000, 0x0120, 0xE78C] (boxed ⟨.lost, 0, 3⟩ base)
    s.pins.held = false ∧ s.lines[(0 : Fin 4)].poll = some ⟨0, [], false⟩ ∧
      s.lines[(0 : Fin 4)].boxes[(0 : Fin 8)] = ⟨.reachable, 15, 255⟩ ∧
      u.lines[(0 : Fin 4)].poll = some ⟨0, [0x8000, 0x0120, 0xE78C], false⟩ ∧
      (0x0120 : Word) + 0xE78C + 0x1754 = 0 ∧ u.lines[(0 : Fin 4)].boxes[(0 : Fin 8)] = ⟨.lost, 0, 3⟩ := by decide +kernel

theorem witness_ValidReplyUpdatesItsBox :
    base.pins.held = false ∧ base.lines[(3 : Fin 4)].poll = none ∧
      (polled [0x8000, 0x0120] base).lines[(0 : Fin 4)].poll = some ⟨0, [0x8000, 0x0120], false⟩ ∧
      [(0x8000 : Word), 0x0120].length < 3 ∧
      (polled [0x8000, 0x0120, 0xE78C] base).lines[(0 : Fin 4)].poll = some ⟨0, [0x8000, 0x0120, 0xE78C], false⟩ ∧
      (0x0120 : Word) + 0xE78C + 0x1754 = 0 := by decide +kernel

/-- With the debounce count at 64: the left seat's sixty-fourth SHORT reading and the right seat's sixty-third HEADSET one,
the other way about, and the right seat's with its JACK_CHANGE set; and with the count at 1 a first reading of each. -/
theorem witness_JackClassIsConfirmedAtTheDebounceCount :
    let s (debounce : Nat) (keys sense : Word) (left right : SeatJack) :=
      let u := polled [0x8000, keys, sense] base
      u.withLines (setAt u.lines 0 { u.lines[(0 : Fin 4)] with
        debounce := debounce, jacks := setAt (setAt u.lines[(0 : Fin 4)].jacks 0 left) 1 right })
    let holds (debounce : Nat) (keys sense check : Word) (left right : SeatJack) : Prop :=
      let t := s debounce keys sense left right
      t.pins.held = false ∧ t.lines[(0 : Fin 4)].poll = some ⟨0, [0x8000, keys, sense], false⟩ ∧
        keys + sense + check = 0 ∧ t.lines[(0 : Fin 4)].debounce = debounce ∧
        t.lines[(0 : Fin 4)].jacks[sidePlace 0 false] = left ∧ t.lines[(0 : Fin 4)].jacks[sidePlace 0 true] = right ∧
        t.lines[(0 : Fin 4)].shortThreshold = 24 ∧ t.lines[(0 : Fin 4)].openThreshold = 220
    holds 64 0 0x8C17 0x73E9 ⟨none, some .short, 63, 0⟩ ⟨none, some .headset, 62, 0⟩ ∧
      holds 64 0 0x178C 0xE874 ⟨none, some .headset, 62, 0⟩ ⟨none, some .short, 63, 0⟩ ∧
      holds 64 0x0800 0x8C17 0x6BE9 ⟨none, some .short, 255, 0⟩ ⟨none, some .headset, 255, 0⟩ ∧
      holds 1 0x0020 0x178C 0xE854 ⟨some .short, some .headset, 9, 0⟩ ⟨none, none, 0, 0⟩ := by decide +kernel

theorem witness_BoxRunsCountRepliesAndMissedPolls :
    let s := polled [] (boxed ⟨.reachable, 15, 255⟩ base)
    let u := polled [0x8000, 0x0120, 0xE78C] (boxed ⟨.lost, 255, 255⟩ base)
    Addressed toUs s ∧ BoxRunsBounded s ∧ BoxRunsBounded u ∧ s.lines[(0 : Fin 4)].poll = some ⟨0, [], false⟩ ∧
      u.lines[(0 : Fin 4)].poll = some ⟨0, [0x8000, 0x0120, 0xE78C], false⟩ ∧ (0x0120 : Word) + 0xE78C + 0x1754 = 0 ∧
      step (s.withPending [.outputFrame early]) = .next (after (.outputFrame early) (s.withPending [])) :=
  ⟨⟨rfl, .inl rfl, rfl, rfl⟩, by unfold BoxRunsBounded; decide +kernel, by unfold BoxRunsBounded; decide +kernel,
    by decide +kernel, by decide +kernel, by decide, rfl⟩

/-- A seat at the top step that takes VOL_UP and calls, and one that is disabled. -/
theorem witness_KeysActOnTheirSeat :
    let s := seated 0 (fun r => { r with step := 15, language := some 41 })
      (seated 1 (fun r => { r with enabled := false }) (programmed base))
    let k : Keys := ⟨true, false, true, false, true⟩
    s.seats.records[(0 : Fin 65)].step ≤ 15 ∧ ¬(k.volumeUp = true ∧ k.volumeDown = true) ∧
      ¬(k.languageNext = true ∧ k.languagePrev = true) ∧ s.prog.carousel.Nodup ∧ s.prog.carousel[4]? = some 41 ∧
      s.seats.records[(0 : Fin 65)].language = some 41 ∧ s.seats.records[(0 : Fin 65)].languageLock = false ∧
      s.seats.records[(0 : Fin 65)].enabled = true ∧ s.seats.records[(0 : Fin 65)].holdoff = 0 ∧ k.call = true ∧
      s.seats.records[(1 : Fin 65)].enabled = false := by decide +kernel

/-- Each lock with the word that moves it; a good frame at its W7 and a bad one; the tracker with room for a SOM pair and
without, and a message in IN with one place left and none. -/
theorem witness_ReturnInHoldsAGoodFrame :
    let s (l : LockState) (pos miss : Nat) (words : List Word) :=
      base.withRet { base.ret with rx := ⟨l, pos, miss, words⟩ }
    let frame : List Word := [0x8000, 0x0100, 0, 0, 0, 1, 0]
    let held (t : TrackState) (esc : Bool) (n : Nat) :=
      base.withRet { base.ret with track := t, esc := esc, hold := [⟨List.replicate n 0x1B1B, false, false⟩] }
    base.pins.held = false ∧ base.pins.passThrough = false ∧ (0x7FFF : Word) ≠ 0x8000 ∧ base.ret.rx.lock = .hunt ∧
      (s .verify 6 0 []).ret.rx.pos < 7 ∧ (s .verify 7 0 []).ret.rx.pos = 7 ∧ (s .locked 5 0 []).ret.rx.pos < 6 ∧
      (s .locked 7 0 []).ret.rx.lock = .locked ∧ (s .flywheel 7 1 []).ret.rx.missRun < 2 ∧
      (s .flywheel 7 2 []).ret.rx.missRun = 2 ∧ (s .flywheel 6 1 []).ret.rx.pos = 6 ∧
      (s .locked 6 0 frame).ret.rx.lock = .locked ∧ frame.length = 7 ∧ sumWords (frame ++ [0xFEFF]).tail = 0 ∧
      sumWords (frame ++ [0xFEFE]).tail ≠ 0 ∧ (held .outside true 30).ret.track ≠ .inMessage ∧
      holdCount (held .outside true 30).ret.hold + 2 ≤ 32 ∧ 32 < holdCount (held .skip true 31).ret.hold + 2 ∧
      (held .skip false 31).ret.esc = false ∧ (held .inMessage true 31).ret.track = .inMessage ∧
      (held .inMessage true 31).ret.hold = [] ++ [⟨List.replicate 31 0x1B1B, false, false⟩] ∧
      holdCount (held .inMessage true 31).ret.hold < 32 ∧ ¬holdCount (held .inMessage false 32).ret.hold < 32 ∧
      List.replicate 31 (0x1B1B : Word) ≠ [] := by decide +kernel

/-- A queue one short of full and a full one; a report with nothing held, and with the turn; a held message without a
report, and with the turn downstream; a truncated message whose words are out, one with two words left, and one with no
word or a lone ESC. -/
theorem witness_ReportGoesOutWholeOnTheReplySlot :
    let s := after (.readSeat toUs (payload [12])) base
    let held (m : HeldMessage) (s : State) := s.withRet { s.ret with hold := [m] }
    let whole : HeldMessage := ⟨wireMessage 0x1F80 [0], true, false⟩
    (waiting 15).reports.queue.length < 16 ∧ 16 ≤ (waiting 16).reports.queue.length ∧
      s.tx.mode = .idle ∧ s.ret.hold = [] ∧ s.reports.queue = s.reports.queue.headD ⟨0, 0, []⟩ :: [] ∧
      ((held whole s).withTx ⟨.idle, .localNext⟩).tx.turn = .localNext ∧ base.reports.queue = [] ∧
      base.tx.mode = .idle ∧ (held whole s).tx.turn ≠ .localNext ∧ (held whole s).ret.hold = whole :: [] ∧
      (base.withTx ⟨.forward false, .none⟩).tx.mode = .forward false ∧
      (held ⟨[], true, true⟩ base).ret.hold = ⟨[], true, true⟩ :: [] ∧
      (held ⟨[0x1B1B, 1], false, false⟩ base).ret.hold = ⟨0x1B1B :: 1 :: [], false, false⟩ :: [] ∧
      (held ⟨[0x1B1B], false, false⟩ base).ret.hold = ⟨[0x1B1B], false, false⟩ :: [] ∧
      (held ⟨[], false, false⟩ base).ret.hold = ⟨[], false, false⟩ :: [] := by decide +kernel

/-- A zone without an overlay, and one at the last light tick of its overlay's last cycle, at the same of an endless one
and of a cycle before, and within a step. -/
theorem witness_LightTickMovesZonesAndSendsAFrame :
    let v (step tick cycles : Nat) : Overlay := ⟨1, 1023, 300, step, tick, cycles⟩
    let p : Pattern := ⟨0x00FF, 5, 2⟩
    let s (v : Overlay) := base.withLights { base.lights with
      zones := setAt base.lights.zones 12 ⟨400, 4, some v, 300⟩, patterns := setAt base.lights.patterns 1 (some p) }
    base.pins.held = false ∧ (s (v 15 4 1)).lights.zones[(0 : Fin 16)].overlay = none ∧
      (s (v 15 4 1)).lights.zones[(12 : Fin 16)].overlay = some (v 15 4 1) ∧
      (s (v 15 4 1)).lights.patterns[(v 15 4 1).pattern] = some p ∧ 15 ≤ (v 15 4 1).step ∧ (v 15 4 1).cycles = 1 ∧
      p.length ≤ (v 15 4 1).tick + 1 ∧ (v 15 4 0).cycles ≠ 1 ∧ (v 14 4 1).step < 15 ∧ (v 15 3 1).tick + 1 < p.length := by
  decide +kernel

theorem witness_RouteTickReckonsUntilThePositionIsStale :
    let s := routed 1199990 base
    let last := s.withRoute { s.route with age := 150, status := .deadReckoned }
    base.pins.held = false ∧ base.route.status = .invalid ∧ s.pins.held = false ∧ s.route.status = .fresh ∧
      s.route.session = .running ∧ s.route.loop = true ∧ last.route.status = .deadReckoned ∧
      last.route.age = 150 ∧ last.route.estimate < last.route.length * 100 := by decide +kernel

/-- Just beyond the arrival window of stop 14, at its two ends with the bus at rest, at the start of the approach, beyond
the window after an arrival, and before the approach. -/
theorem witness_StopIsPassedArrivedOrApproached :
    let s (e v : Nat) := (routed e base).withRoute { (routed e base).route with speed := v }
    (s 342001 800).route.stops[0]? = some stop14 ∧ stop14.lap = .pending ∧
      (stop14.metre + stop14.radius) * 100 < (s 342001 800).route.estimate ∧
      stop14.metre * 100 ≤ 338000 + stop14.radius * 100 ∧ 342000 ≤ (stop14.metre + stop14.radius) * 100 ∧
      (s 342000 50).route.speed ≤ (s 342000 50).route.haltSpeed ∧
      stop14.metre * 100 ≤ (s 310000 800).route.estimate + stop14.approach * 100 ∧
      (s 310000 800).route.estimate + stop14.radius * 100 < stop14.metre * 100 ∧
      { stop14 with lap := .arrived }.lap = .arrived ∧ ¬stop14.metre * 100 ≤ 309999 + stop14.approach * 100 := by
  decide +kernel

/-- A reading at each rail and within them; the tenth DUSK sample; the third INVALID sample; and a cue on each change. -/
theorem witness_AmbientSampleIsSmoothedAndJudged :
    let dusk := base.withCues { base.cues with ambient := ⟨60, some 72, some .dusk, 9, 0, some .day, 32, 96, 192, 1⟩ }
    let bad := base.withCues { base.cues with ambient := { base.cues.ambient with invalidRun := 2 } }
    let cue (k : Nat) (s : State) := oneCue 7 .ambientBand k (.paSource .off) s
    (base.pins.held = false ∧ base.cues.ambient.invalidRun ≤ 255 ∧ base.cues.ambient.smoothed = none ∧
      dusk.cues.ambient.smoothed = some 72 ∧ dusk.pins.held = false ∧ (60 : BitVec 8) ≠ 0 ∧ (60 : BitVec 8) ≠ 255 ∧
      bandOf dusk.cues.ambient (smooth dusk.cues.ambient.smoothed 60) = .dusk ∧
      dusk.cues.ambient.candidate = some .dusk ∧ dusk.cues.ambient.confirmed ≠ some .dusk ∧
      dusk.cues.ambient.run < 65535 ∧ dusk.cues.ambient.dwell * 10 ≤ dusk.cues.ambient.run + 1 ∧
      bad.cues.ambient.invalidRun = 2 ∧
      (after (.ambientSample 60) (cue 2 dusk)).cues.ambient.confirmed = some .dusk ∧
      bandCode (some .dusk) = 2 ∧ (cue 2 dusk).cues.ambient.confirmed = some .day) ∧
      OneCue 7 .ambientBand 2 (.paSource .off) (cue 2 dusk) :=
  ⟨by decide +kernel, oneCue_one ..⟩

/-- A front entry that may go, with a plan, and with neither a plan nor a chime; a replay whose not-before time is the next
local tick; a cue on its kind; and plans: with a home lane for the default language and without one, with no ANNOUNCE lane,
and with no default language. -/
theorem witness_FrontEntryIsCuedWhenItMayGo :
    let e : Entry := { entry .waiting with plan := none, ticket := 0, notBefore := some 5 }
    let s (now : Nat) := (healthy (queued [e] (programmed base))).withNow now
    let mute := (healthy (queued [e] base)).withNow 5
    let tongues (l : List Nat) (s : State) := s.withProg { s.prog with carousel := l }
    let lanes (s : State) := (List.finRange 12).filter fun i => decide (s.prog.lanes[i].kind = .announce)
    let homeIn (s : State) (tag : Nat) := (lanes s).find? fun i => decide (s.prog.lanes[i].tag = tag)
    ((s 5).pins.held = false ∧ (s 5).cues = base.cues ∧ (s 5).ann.queue = e :: [] ∧ activeEntry (s 5) = none ∧
      (s 5).dog.health = .ok ∧ e.notBefore = some 5 ∧ 5 ≤ (s 5).now ∧ buildPlan (s 5) ≠ [] ∧ buildPlan mute = [] ∧
      mute.ann.slots[slotOf e] = [] ∧ mute.ann.queue = e :: [] ∧
      (s 4).dog.goodInTick = true ∧ e.notBefore = some ((s 4).now + 1) ∧ buildPlan (s 4) ≠ []) ∧
      ((s 5).prog.carousel = 5 :: [12, 20, 33, 41] ∧ (5 :: [12, 20, 33, 41]).Nodup ∧ homeIn (s 5) 5 = some 5 ∧
      (tongues [41, 5] (s 5)).prog.carousel = 41 :: [5] ∧ homeIn (tongues [41, 5] (s 5)) 41 = none ∧
      (lanes (s 5)).head? = some 5 ∧ lanes (tongues [41, 5] base) = [] ∧ base.prog.carousel = []) ∧
      OneCue 3 .announceCued 2 (.paSource .off) (oneCue 3 .announceCued 2 (.paSource .off) (s 5)) ∧
      OneCue 3 .announceCued 3 (.paSource .off) (oneCue 3 .announceCued 3 (.paSource .off) (s 5)) :=
  ⟨by decide +kernel, by decide +kernel, oneCue_one .., oneCue_one ..⟩

theorem witness_TimersAbortTheActiveEntry :
    let s (e : Entry) := healthy (queued [e] base)
    let timed (s : State) := s.withAnn { s.ann with cueTimer := 1999, playTimer := 59999 }
    (timed (s (entry .cued))).pins.held = false ∧ (timed (s (entry .cued))).dog = ⟨.ok, 0, 0, true⟩ ∧
      activeEntry (timed (s (entry .cued))) = some (entry .cued) ∧ (entry .cued).clipStarted = false ∧
      (entry .cued).plan.getD [] ≠ [] ∧ (timed base).ann.cueTimeout ≤ (timed base).ann.cueTimer + 1 ∧
      activeEntry (timed (s (entry .playing))) = some (entry .playing) ∧ (timed base).ann.playTimer = 59999 := by
  decide +kernel

/-- The decoder in each of its states, with and without an ESC and a header; with the payload full and a word short of
full, and with the word-lost mark; a header for unit 0 and one for unit 1; and each kind of word. -/
theorem witness_ControlSlotBringsWholeMessages :
    let s (st : DecoderState) (esc : Bool) (h : Option Word) (n : Nat) (lost : Bool) :=
      base.withDecoder ⟨st, esc, h, List.replicate n 7, lost, 65535⟩
    base.decoder.state = .outside ∧ base.decoder.esc = false ∧ base.decoder.garbled ≤ 65535 ∧
      (s .outside true none 0 false).decoder.esc = true ∧ (s .outside true none 0 false).decoder.garbled ≤ 65535 ∧
      (s .inMessage false none 0 false).decoder.header = none ∧ (s .inMessage true none 0 true).decoder.header = none ∧
      (0x1C98#16).extractLsb' 13 3 = base.pins.unit.setWidth 3 ∧ (0x3C98#16).extractLsb' 13 3 ≠ base.pins.unit.setWidth 3 ∧
      (0x3C98#16).extractLsb' 13 3 ≠ 7#3 ∧ (s .inMessage true (some 0x1C98) 63 true).decoder.payload.length < 64 ∧
      64 ≤ (s .inMessage false (some 0x1C98) 64 false).decoder.payload.length ∧
      (s .inMessage true (some 0x1C98) 64 false).decoder.payload.length ≤ 64 ∧
      (s .inMessage true (some 0x1C98) 1 true).decoder.wordLost = true ∧
      (s .discard false none 0 false).decoder.state = .discard ∧ (s .discard true none 0 false).decoder.esc = true ∧
      (0x0021#16 ≠ 0 ∧ 0x0021#16 ≠ 0x1B1B#16 ∧ 0x0021#16 ≠ 1 ∧ 0x0021#16 ≠ 2 ∧ 0x0021#16 ≠ 3) := by decide +kernel

theorem witness_RefusedMessageWritesNothing : (judgeKind .setZones true (payload [1024, 300]) base).result ≠ .accepted := by
  decide +kernel

theorem witness_LenientIsTheWeakerProfile :
    (judgeKind .setZones true (payload [1023, 300]) base).result = .accepted ∧
      (judgeKind .setZones false (payload [1023, 300]) base).result ≠ .length := by decide +kernel

/-- With fifteen reports waiting and with sixteen, and for unit 1. -/
theorem witness_UnknownKindIsRefusedAndAnswered :
    Addressed toUs (waiting 15) ∧ Addressed toUs (waiting 16) ∧ kindOf 0x05#6 = none ∧
      (List.replicate 64 (0 : Word)).length ≤ 64 ∧ (waiting 15).reports.queue.length < 16 ∧
      16 ≤ (waiting 16).reports.queue.length ∧ (1 : BitVec 3) ≠ base.pins.unit.setWidth 3 ∧ (1 : BitVec 3) ≠ 7#3 :=
  ⟨⟨rfl, .inl rfl, rfl, rfl⟩, ⟨rfl, .inl rfl, rfl, rfl⟩, by decide +kernel⟩

/-- The fourth ANNOUNCE lane, a held lane, and a carousel of twelve. -/
theorem witness_ProgrammeMapIsWritten :
    let s := queued [entry .playing] (programmed base)
    let lanes := setAt s.prog.lanes 8 ⟨.announce, 63, 32767, 15⟩
    Addressed toUs s ∧ (8 : Fin 12) ∉ heldLanes s ∧ countKind .announce lanes ≤ 4 ∧ countKind .bed lanes ≤ 1 ∧
      (5 : Fin 12) ∈ heldLanes s ∧ ((List.range' 1 12).length ≤ 12 ∧ (List.range' 1 12).Nodup ∧
      ∀ t ∈ List.range' 1 12, 1 ≤ t ∧ t ≤ 63) :=
  ⟨⟨rfl, .inl rfl, rfl, rfl⟩, by decide +kernel⟩

theorem witness_ReadsAreAnsweredAndChangeNothing :
    Addressed toUs base ∧ 0 + 0 ≤ base.route.stops.length ∧ 28 + 4 ≤ 32 ∧ base.reports.queue.length < 16 :=
  ⟨addressed_base, by decide +kernel⟩

theorem witness_LineAndAudioSettingsAreReplaced : Addressed toUs base ∧ 254 < 255 ∧ 1 ≤ 255 ∧ 8 ≤ 8 ∧ 1 ≤ 2048 ∧ 1 ≤ 15 :=
  ⟨addressed_base, by decide⟩

/-- A member of the carousel, and NONE while it is empty; a mask of all five fields with legal words, one of none with words
that are legal for no field, and under LENIENT one with every reserved bit set. -/
theorem witness_SeatWritesWriteTheSelectedFields :
    let lenient := (programmed base).withPins { base.pins with profile := .lenient }
    Addressed toUs (programmed base) ∧ Addressed toUs base ∧ Addressed toUs lenient ∧ (64 : Fin 65) ≤ 64 ∧
      41 ∈ (programmed base).prog.carousel ∧ 1 ≤ 41 ∧ 41 ≤ 63 ∧ base.prog.carousel = [] ∧
      (31#16).toNat < 32 ∧ (1#16).toNat < 2 ∧ (3#16).toNat < 4 ∧ (15#16).toNat ≤ 15 ∧ (2#16).toNat ≤ 2 ∧
      base.pins.profile = .strict ∧ (0#16).toNat < 32 ∧ (0#16).getLsbD 0 = false ∧ (0#16).getLsbD 3 = false ∧
      (0#16).getLsbD 4 = false ∧ lenient.pins.profile ≠ .strict ∧ (0xFFFF#16).getLsbD 4 = true :=
  ⟨⟨rfl, .inl rfl, rfl, rfl⟩, addressed_base, ⟨rfl, .inl rfl, rfl, rfl⟩, by decide +kernel⟩

/-- Set Route at reset, and stop 14 written at the end of a table of one stop. -/
theorem witness_RouteAndStopsAreWritten :
    let s := routed 0 base
    let s := s.withRoute { s.route with stops := [{ stop14 with number := 12, metre := 2900 }] }
    Addressed toUs base ∧ base.route.session = .idle ∧ (∀ e ∈ base.ann.queue, e.kind = .general) ∧ Addressed toUs s ∧
      [stop14] ≠ [] ∧ [stop14].length ≤ 8 ∧ 1 ≤ s.route.stops.length ∧ s.route.length ≤ 65535 ∧
      StopOk s.route.length stop14 ∧ ((s.route.stops ++ [stop14]).map (·.metre)).Pairwise (· < ·) ∧
      ((s.route.stops ++ [stop14]).map (·.number)).Nodup :=
  ⟨addressed_base, rfl, by decide +kernel, ⟨rfl, .inl rfl, rfl, rfl⟩, by decide, by decide, by decide +kernel,
    by decide +kernel, by unfold StopOk; decide +kernel, by decide +kernel, by decide +kernel⟩

/-- In RUNNING, and in LAYOVER. -/
theorem witness_PositionIsPlaced :
    let s := routed 700000 base
    Addressed toUs s ∧ 16777215 < 16777216 ∧ 4095 < 4096 ∧ s.route.session = .running ∧
      (s.withRoute { s.route with session := .layover }).route.session ≠ .running :=
  ⟨⟨rfl, .inl rfl, rfl, rfl⟩, by decide +kernel⟩

theorem witness_TourActionsChangeTheSession :
    Addressed toUs base ∧ (routed 0 base).route.session = .running ∧
      (after (.tourPause toUs []) (after (.positionInvalid toUs 0 0 0 []) (routed 0 base))).route.session = .layover ∧
      (after (.tourPause toUs []) (after (.positionInvalid toUs 0 0 0 []) (routed 0 base))).route.status = .invalid ∧
      (after (.tourPause toUs []) (routed 0 base)).route.status = .fresh ∧
      base.route.session ≠ .running ∧ base.route.session ≠ .layover :=
  ⟨addressed_base, by decide +kernel⟩

/-- The ends of the ticket range and beyond; the PLAYING entry's ticket, and an entry that is only CUED. -/
theorem witness_ClipEndEndsThePlayingEntryOrIsRefused :
    let s (st : EntryState) := queued [{ entry st with ticket := 255 }] base
    Addressed toUs (s .playing) ∧ 0 ≤ 65535 ∧ 255 < 256 ∧ 255 ≤ 255 ∧
      activeEntry (s .playing) = some { entry .playing with ticket := 255 } ∧
      activeEntry (s .cued) = some { entry .cued with ticket := 255 } ∧ EntryState.cued ≠ .playing :=
  ⟨⟨rfl, .inl rfl, rfl, rfl⟩, by decide +kernel⟩

/-- An entry that joins without preempting; a repeat; an urgent one that preempts, GENERAL or of a stop that is arrived; a
full queue whose last entry is evicted, and one that drops the offer; a second Clip Start, one with no entry, for another
ticket and in TRAILING; and a Cancel of each state, of a stop's entry, and of nothing. -/
theorem witness_AnnouncementMessagesActOnTheQueue :
    let s (st : EntryState) := queued [entry st] base
    let other (n : Nat) : Entry := { entry .waiting with subject := n, ticket := 0, plan := none }
    let full := queued ([entry .playing] ++ [8, 9, 10, 11].map other ++ [{ other 12 with priority := 0 }]) base
    let call : Entry := { entry .playing with kind := .arrival, subject := 14 }
    ((s .cued).ann.queue.length < 6 ∧ (∀ e ∈ (s .cued).ann.queue, ¬(e.kind = .general ∧ e.subject = 255)) ∧
      (∃ e ∈ (s .cued).ann.queue, e.kind = .general ∧ e.subject = 7) ∧
      activeEntry (s .cued) = some (entry .cued) ∧ activeEntry (s .playing) = some (entry .playing) ∧
      (entry .cued).priority < 3 ∧ (healthy (s .cued)).dog.health = .ok ∧
      activeEntry (queued [call] (routed 0 base)) = some call ∧ full.ann.queue.length = 6 ∧
      full.ann.queue = ([entry .playing] ++ [8, 9, 10, 11].map other) ++ { other 12 with priority := 0 } :: [] ∧
      (∀ f ∈ [entry .playing] ++ [8, 9, 10, 11].map other, f.state = .waiting → 0 ≤ f.priority) ∧
      (∀ f ∈ full.ann.queue, f.state = .waiting → 0 ≤ f.priority) ∧ (other 12).state = .waiting ∧
      1 ≤ (entry .cued).ticket ∧ (entry .cued).ticket ≤ 255 ∧ (entry .cued).clipStarted = false ∧
      (s .cued).ann.chime = none ∧ (chiming [⟨8, 20, 16000⟩] 0 (s .cued)).ann.chime ≠ none ∧
      (entry .cued).plan.getD [] ≠ [] ∧ (s .cued).cues = base.cues ∧ (entry .cued).kind = .general ∧
      1 ≤ (entry .cued).subject ∧ (entry .cued).subject ≤ 255 ∧
      activeEntry (queued [{ entry .cued with clipStarted := true }] base) = some { entry .cued with clipStarted := true } ∧
      activeEntry base = none ∧ activeEntry (s .trailing) = some (entry .trailing) ∧ (entry .trailing).ticket ≠ 255 ∧
      full.ann.queue = [] ++ entry .playing :: ([8, 9, 10, 11].map other ++ [{ other 12 with priority := 0 }]) ∧
      (s .trailing).ann.queue = [] ++ entry .trailing :: [] ∧ (call.kind = .arrival ∧ call.subject = 14) ∧
      (∀ f ∈ (s .cued).ann.queue, ¬(f.kind = .approach ∧ f.subject = 999))) ∧
      Addressed toUs (s .cued) ∧ QueueSound full ∧ QueueSound (s .trailing) ∧ MayReturn base.route (entry .playing) ∧
      ¬MayReturn (routed 0 base).route call ∧
      OneCue 9 .announcePlaying 0 (.paSource .off) (oneCue 9 .announcePlaying 0 (.paSource .off) (s .cued)) :=
  ⟨by decide +kernel, ⟨rfl, .inl rfl, rfl, rfl⟩, by unfold QueueSound Precedes; decide +kernel,
    by unfold QueueSound Precedes; decide +kernel, .inl rfl,
    fun h => h.elim (by decide) fun h => (h.2 stop14 (by decide +kernel)).elim (by decide) (by decide), oneCue_one ..⟩

theorem witness_SettingsAreReplacedTogether :
    Addressed toUs (healthy base) ∧ (List.replicate 4 (⟨4, 1000, 32767⟩ : Note)).length ≤ 4 ∧
      (∀ n ∈ List.replicate 4 (⟨4, 1000, 32767⟩ : Note),
        4 ≤ n.divider ∧ n.divider ≤ 64 ∧ 20 ≤ n.duration ∧ n.duration ≤ 1000 ∧ n.level ≤ 32767) ∧
      1023 ≤ 1023 ∧ 10000 ≤ 10000 ∧ (healthy base).dog.health = .ok ∧ 253 < 254 ∧ 254 < 255 ∧ 255 ≤ 255 :=
  ⟨⟨rfl, .inl rfl, rfl, rfl⟩, by decide +kernel⟩

theorem witness_ScenesPatternsAndCuesAreWrittenAsGiven :
    Addressed toUs base ∧ (List.replicate 8 (⟨⟨15, 0⟩, 1023, 10000⟩ : SceneItem)).length ≤ 8 ∧
      (∀ it ∈ List.replicate 8 (⟨⟨15, 0⟩, 1023, 10000⟩ : SceneItem), it.level ≤ 1023 ∧ it.fade ≤ 10000) ∧
      CueOk ⟨true, .stopApproach, 999, 15, 255, .announce 255 3 .countWhileHalted 7⟩ :=
  ⟨addressed_base, by decide +kernel, by decide +kernel, by simp [CueOk, paramLimit, ActionOk, announceTrigger]⟩

/-- An empty scene; a scene, with the one enabled cue on Marker 255, an active entry, and a Marker that nothing matches;
two cues on one Marker; and an ANNOUNCE that preempts, with a cue on ANNOUNCE_CUED before it in the table. -/
theorem witness_SceneIsAppliedByMessageAndByMarker :
    let s := healthy (queued [entry .playing] base)
    let s := s.withLights { s.lights with
      scenes := setAt s.lights.scenes 3 [⟨⟨15, 1⟩, 0, 250⟩], patterns := setAt s.lights.patterns 1 (some ⟨1, 5, 2⟩) }
    let on (k : TriggerKind) (p : Nat) (a : CueAction) : Cue := ⟨true, k, p, 0xF#4, 0, a⟩
    let two (c d : Cue) := s.withCues { s.cues with table := setAt (setAt s.cues.table 0 c) 31 d }
    let ducks := two (on .marker 255 (.duckDepth 0)) (on .marker 255 (.duckDepth 8))
    let urgent := two (on .announceCued 2 (.paSource .off)) (on .marker 255 (.announce 255 3 .once 0))
    (s.lights.scenes[(0 : Fin 16)] = [] ∧ s.lights.scenes[(3 : Fin 16)] ≠ [] ∧
      (∀ i : Fin 32, ducks.cues.table[i].enabled = true →
        ¬(ducks.cues.table[i].trigger = .marker ∧ ducks.cues.table[i].param = 254)) ∧
      s.lights.patterns[(0 : Fin 4)] = none ∧ s.lights.patterns[(1 : Fin 4)] = some ⟨1, 5, 2⟩ ∧ (0 : Fin 32) < 31 ∧
      ducks.cues.table[(0 : Fin 32)] = on .marker 255 (.duckDepth 0) ∧
      ducks.cues.table[(31 : Fin 32)] = on .marker 255 (.duckDepth 8) ∧
      (∀ k : Fin 32, k ≠ 0 → k ≠ 31 → ducks.cues.table[k].enabled = false) ∧
      urgent.cues.table[(31 : Fin 32)] = on .marker 255 (.announce 255 3 .once 0) ∧
      urgent.cues.table[(0 : Fin 32)] = on .announceCued 2 (.paSource .off) ∧
      activeEntry urgent = some (entry .playing) ∧ (entry .playing).priority < 3 ∧ urgent.dog.health = .ok ∧
      urgent.ann.queue.length < 6 ∧ (∀ f ∈ urgent.ann.queue, ¬(f.kind = .general ∧ f.subject = 255))) ∧
      Addressed toUs s ∧ ∀ (k : TriggerKind) (a : CueAction), OneCue 31 k 255 a (oneCue 31 k 255 a s) :=
  ⟨by decide +kernel, ⟨rfl, .inl rfl, rfl, rfl⟩, fun _ _ => oneCue_one ..⟩

theorem witness_NoticesAndProfileAreSet : Addressed toUs base ∧ 2 ≤ 65535 := ⟨addressed_base, by decide⟩

/-- Overlays stand on the sixteen zones, or on none. -/
theorem witness_RestartKeepsTablesAndSettings :
    let s := base.withLights { base.lights with
      zones := Vector.replicate 16 ⟨400, 4, some ⟨1, 1023, 300, 2, 1, 0⟩, 300⟩ }
    Addressed { toUs with unit := 7 } s ∧ Addressed { toUs with unit := 7 } base ∧
      (∀ i : Fin 16, s.lights.zones[i].overlay ≠ none) ∧ ∀ i : Fin 16, base.lights.zones[i].overlay = none :=
  ⟨⟨rfl, .inr rfl, rfl, rfl⟩, addressed_broadcast, by decide +kernel, by decide +kernel⟩

theorem witness_ProgrammeMapIsEmptyAtPowerOnAndKeptByRestart :
    Addressed toUs (programmed base) ∧ (programmed base).prog.carousel ≠ [] :=
  ⟨⟨rfl, .inl rfl, rfl, rfl⟩, by decide +kernel⟩

/-- A report queue and a hold buffer that are full, in a state that a step leaves. -/
theorem witness_QueuesOfTheReturnLinkStayBounded :
    let s := ((base.withReports ⟨List.replicate 16 ⟨0x3F, 0, []⟩, 0⟩).withRet { base.ret with
      hold := [⟨List.replicate 32 1, false, false⟩] }).withPending [.readZones toUs []]
    ReportsBounded s ∧ HoldBounded s ∧ step s = .next (after (.readZones toUs []) (s.withPending [])) :=
  ⟨by unfold ReportsBounded; decide +kernel, by unfold HoldBounded; decide +kernel, rfl⟩

theorem witness_StoreStaysSound :
    let s := ((healthy base).withStore ⟨List.replicate 4 .absent, true, .absent⟩).withPending [.localTick true]
    StoreSound s ∧ step s = .next (after (.localTick true) (s.withPending [])) :=
  ⟨by unfold StoreSound; decide +kernel, rfl⟩

/-- Two entries in queue order, the later of higher entry time. -/
theorem witness_AnnouncementQueueStaysSound :
    let s := (queued [entry .playing, { entry .waiting with subject := 8, entryTime := 1 }] base).withPending
      [.tourEnd toUs []]
    QueueSound s ∧ step s = .next (after (.tourEnd toUs []) (s.withPending [])) :=
  ⟨by unfold QueueSound Precedes; decide +kernel, rfl⟩

theorem witness_TablesStaySound :
    let s := (routed 0 (programmed base)).withPending [.setLane toUs (payload [8, 0, 0, 0, 0])]
    ProgrammeSound s ∧ StopsSound s ∧ LinesSound s ∧
      step s = .next (after (.setLane toUs (payload [8, 0, 0, 0, 0])) (s.withPending [])) :=
  ⟨by unfold ProgrammeSound; decide +kernel, by unfold StopsSound; decide +kernel, by unfold LinesSound; decide +kernel, rfl⟩

theorem witness_GainsStayInRange :
    let s := base.withPending [.outputFrame early]
    GainsSound s ∧ step s = .next (after (.outputFrame early) (s.withPending [])) :=
  ⟨by unfold GainsSound; decide +kernel, rfl⟩

end Sys2Proof.Tests
end

/-! # Proofs: the lane table and the carousel (O54) -/

namespace Sys2Proof.Machine

/-! ## A message that this unit takes -/

@[simp] theorem kindOf_kindCode (k : MsgKind) : kindOf (kindCode k) = some k := by
  cases k <;> rfl

theorem Addressed.namesUnit_eq_true {h : MsgHead} {s : State} (ha : Addressed h s) :
    namesUnit s.pins.unit h.unit = true := by
  simpa [namesUnit] using ha.named

/-- The checks before those of the kind itself pass (R26). -/
theorem Addressed.judgeMessage_eq {h : MsgHead} {s : State} (ha : Addressed h s) (k : MsgKind) (p : List Word) :
    judgeMessage h (kindCode k) p s = judgeKind k (s.pins.profile == .strict) p s := by
  simp [judgeMessage, ha.whole, ha.clean]

theorem addressed_decoderIdle {h : MsgHead} {s : State} (ha : Addressed h s) : Addressed h (decoderIdle s) :=
  ⟨ha.running, ha.named, ha.whole, ha.clean⟩

/-- A message of at most 64 payload words is judged at its EOM (R21, R23, R193). -/
theorem Addressed.message_eq {h : MsgHead} {s : State} (ha : Addressed h s) (k : MsgKind) {p : List Word}
    (hp : p.length ≤ 64) : message k h p s = .next (completeMessage h (kindCode k) p s) := by
  have hfits : ¬ Config.messageWords < p.length := Nat.not_lt.mpr hp
  rw [message, running_free ha.running]
  simp [receive, ha.namesUnit_eq_true, hfits]

/-- A kind that can complete no cue does what its verdict says and queues its Reply (R26, R29). -/
theorem Addressed.completeMessage_eq {h : MsgHead} {s : State} (ha : Addressed h s) {k : MsgKind} (p : List Word)
    (hk : mayComplete k = false) {v : Verdict}
    (hv : judgeKind k (s.pins.profile == .strict) p (decoderIdle s) = v) :
    completeMessage h (kindCode k) p s = reply h (kindCode k) v.result v.data v.state := by
  have hjudge : judgeMessage h (kindCode k) p (decoderIdle s) = v :=
    ((addressed_decoderIdle ha).judgeMessage_eq k p).trans hv
  simp [completeMessage, hjudge, completes, hk]

/-! ## Queuing a report -/

theorem offerReport_ann (r : Report) (s : State) : (offerReport r s).ann = s.ann := by
  rcases offerReport_cases r s with ⟨-, h⟩ | ⟨-, h⟩ <;> rw [h] <;> rfl

theorem reply_ann (h : MsgHead) (k : BitVec 6) (r : Result) (d : List Word) (s : State) :
    (reply h k r d s).ann = s.ann := by
  unfold reply
  split
  · exact offerReport_ann _ s
  · rfl

theorem reply_prog (h : MsgHead) (k : BitVec 6) (r : Result) (d : List Word) (s : State) :
    (reply h k r d s).prog = s.prog := by
  have hframe := reply_frame h k r d s
  unfold TouchesAnn at hframe
  rw [hframe]

/-! ## Power-on -/

/-- The commands that bring the power-on values set nothing but what waits, the pins and the outputs beside them
(R192, R193). -/
theorem exec_powerOnValues {c : Instr} (s : State)
    (hc : (∃ straps, c = .powerOn ⟨straps, true⟩) ∨ ∃ straps, c = .resetRelease straps) :
    ∃ pins out, exec c s = .next (State.powerOn s.pending pins out) := by
  obtain ⟨straps, rfl⟩ | ⟨straps, rfl⟩ := hc
  · by_cases hphase : s.pins.phase = .powering
    · exact ⟨_, _, congrArg Host.Outcome.next (if_pos hphase)⟩
    · exact ⟨_, _, congrArg Host.Outcome.next (if_neg hphase)⟩
  · exact ⟨_, _, rfl⟩

theorem powerOn_lanes (pending : List Instr) (pins : Pins) (out : Outputs) (i : Fin 12) :
    (State.powerOn pending pins out).prog.lanes[i] = ⟨.unused, 0, 32767, 4⟩ := by
  simp [State.powerOn, Programme.initial, LaneEntry.initial]

theorem powerOn_language (pending : List Instr) (pins : Pins) (out : Outputs) (i : Fin 65) :
    (State.powerOn pending pins out).seats.records[i].language = none := by
  simp [State.powerOn, SeatTable.initial, SeatRecord.initial]

/-! ## Restart -/

theorem judgeRestart_nil (strict : Bool) (s : State) :
    judgeRestart strict [] s = ⟨.accepted, [], restartState s⟩ :=
  judged_pass ((firstFailure_none_iff _).mpr (by simp [lengthChecks]))

/-- Restart puts every block at its Restart values, then queues its Reply (R29, R41). -/
theorem exec_restart {h : MsgHead} {s : State} (ha : Addressed h s) :
    exec (.restart h []) s =
      .next (reply h (kindCode .restart) .accepted [] (restartState (decoderIdle s))) := by
  have hjudged : judgeKind .restart (s.pins.profile == .strict) [] (decoderIdle s) =
      ⟨.accepted, [], restartState (decoderIdle s)⟩ := judgeRestart_nil _ _
  calc exec (.restart h []) s
      = message .restart h [] s := rfl
    _ = .next (completeMessage h (kindCode .restart) [] s) := ha.message_eq .restart (Nat.zero_le 64)
    _ = _ := congrArg Host.Outcome.next (ha.completeMessage_eq [] rfl hjudged)

theorem restartState_queue (s : State) : (restartState s).ann.queue = [] := rfl

theorem restartState_prog (s : State) : (restartState s).prog = s.prog := rfl

theorem activeEntry_of_empty {s : State} (h : s.ann.queue = []) : activeEntry s = none := by
  simp [activeEntry, h]

/-- With no entry active there is no plan, so no lane is held (R50, R142). -/
theorem heldLanes_of_idle {s : State} (h : activeEntry s = none) : heldLanes s = [] := by
  simp [heldLanes, activePlan, h]

/-- Settles O54: the power-on values are read off the state that both commands answer; Restart touches no programme map
and empties the announcement queue, and its Reply changes neither. -/
theorem programmeMapIsEmptyAtPowerOnAndKeptByRestart :
    Obligations.ProgrammeMapIsEmptyAtPowerOnAndKeptByRestart := by
  refine ⟨fun c s hc => ?_, fun h s ha => ⟨_, exec_restart ha, ?_⟩⟩
  · obtain ⟨pins, out, hexec⟩ := exec_powerOnValues s hc
    exact ⟨_, hexec, powerOn_lanes _ pins out, rfl, rfl, powerOn_language _ pins out⟩
  · have hqueue := (congrArg Announcer.queue (reply_ann h (kindCode .restart) .accepted [] _)).trans
      (restartState_queue (decoderIdle s))
    have hidle := activeEntry_of_empty hqueue
    have hprog := (reply_prog h (kindCode .restart) .accepted [] _).trans (restartState_prog (decoderIdle s))
    exact ⟨congrArg Programme.lanes hprog, congrArg Programme.carousel hprog, hidle, heldLanes_of_idle hidle⟩

end Sys2Proof.Machine

/-! # Proofs: the runs of the boxes (O26) -/

namespace Sys2Proof.Machine

/-! ## What leaves the seat lines alone -/

theorem TouchesRoute.lines {s t : State} (h : TouchesRoute s t) : t.lines = s.lines := by
  unfold TouchesRoute at h; rw [h]

theorem TouchesEffects.lines {s t : State} (h : TouchesEffects s t) : t.lines = s.lines := h.route.lines

theorem TouchesAnn.lines {s t : State} (h : TouchesAnn s t) : t.lines = s.lines := h.route.lines

theorem TouchesTick.lines {s t : State} (h : TouchesTick s t) : t.lines = s.lines := by
  unfold TouchesTick at h; rw [h]

/-- What leaves the lines alone still does while the part may be held (R193). -/
theorem running_lines {f : State → State} (hf : ∀ s, (f s).lines = s.lines) (s : State) :
    (running f s).lines = s.lines := by
  unfold running; split
  · rfl
  · exact hf s

theorem storeJoin_lines (f : LaneFrame) (s : State) : (storeJoin f s).lines = s.lines := by
  rw [storeJoin_frame]

theorem countGap_lines (gap : Bool) (s : State) : (countGap gap s).lines = s.lines := by
  unfold countGap; split <;> rfl

theorem takeBad_lines (s : State) : (takeBad s).lines = s.lines := by rw [takeBad_frame]

theorem deliverKeys_lines (i : Fin 65) (k : Keys) (s : State) : (deliverKeys i k s).lines = s.lines := by
  rw [deliverKeys_frame]

theorem setCauseIf_lines (b : Bool) (c : Cause) (s : State) : (setCauseIf b c s).lines = s.lines := by
  rw [setCauseIf_frame']

theorem returnInWord_lines (w : Word) (s : State) : (returnInWord w s).lines = s.lines := by
  have hpass : (passWord w s).lines = s.lines := by unfold passWord; split <;> rfl
  exact (running_lines (fun t => by rw [returnReceive_frame]) _).trans hpass

theorem tickEvent_lines (b : Bool) (s : State) : (tickEvent b s).lines = s.lines :=
  running_lines (fun t => (localTick_frame b t).lines) s

theorem lightTick_lines (s : State) : (lightTick s).lines = s.lines := by simp [lightTick]

theorem lightEvent_lines (s : State) : (lightEvent s).lines = s.lines := running_lines lightTick_lines s

theorem routeEvent_lines (s : State) : (routeEvent s).lines = s.lines :=
  running_lines (fun t => (routeTick_frame t).lines) s

theorem ambientEvent_lines (x : BitVec 8) (s : State) : (ambientEvent x s).lines = s.lines :=
  running_lines (fun t => by rw [ambientSample_frame]) s

/-! ## A box (R63, R64) -/

/-- A step that saturates is the successor, cut at the top (R63). -/
theorem satInc_eq_min (top n : Nat) : satInc top n = min top (n + 1) := by
  unfold satInc; split <;> omega

theorem boxValid_eq (b : BoxState) :
    boxValid b =
      ⟨if b.reach = .lost ∧ min 255 (b.goodRun + 1) ≠ 4 then .lost else .reachable, 0, min 255 (b.goodRun + 1)⟩ := by
  obtain ⟨reach, miss, good⟩ := b
  cases reach <;> simp [boxValid, satInc_eq_min, Config.goodLimit]

theorem boxMissed_eq (b : BoxState) :
    boxMissed b =
      ⟨if b.reach = .reachable ∧ min 255 (b.missRun + 1) = 16 then .lost else b.reach, min 255 (b.missRun + 1), 0⟩ := by
  obtain ⟨reach, miss, good⟩ := b
  cases reach <;> simp [boxMissed, satInc_eq_min, Config.missLimit]

/-! ## What a step can do to a seat line -/

/-- One step takes a seat line from `l` to one of these (R57 to R74). -/
inductive LineStep (l : SeatLine) : SeatLine → Prop
  | kept : LineStep l l
  | poweredOn : LineStep l SeatLine.initial
  | written (enabled : Bool) (openT shortT debounce : Nat) : LineStep l (writeLine enabled openT shortT debounce l)
  | restarted : LineStep l (restartLine l)
  | wordTaken {p : Poll} (w : Word) (hpoll : l.poll = some p) :
      LineStep l { l with poll := some { p with words := p.words ++ [w] } }
  | replied {p : Poll} (w : Word) (hpoll : l.poll = some p) : LineStep l (lineValid p.box (p.words ++ [w]) l)
  | framed : LineStep l (lineSent (lineClosed l))

/-- Each of the four lines takes a step. -/
def LinesStep (v v' : Vector SeatLine 4) : Prop := ∀ i : Fin 4, LineStep v[i] v'[i]

theorem LinesStep.rfl (v : Vector SeatLine 4) : LinesStep v v := fun _ => .kept

theorem LinesStep.of_eq {v v' : Vector SeatLine 4} (h : v' = v) : LinesStep v v' := h ▸ .rfl v

/-- A change that leaves the lines alone may come before a step. -/
theorem LinesStep.of_before {v v' w : Vector SeatLine 4} (h : LinesStep v w) (hv : v = v') : LinesStep v' w := hv ▸ h

theorem LinesStep.setAt {v : Vector SeatLine 4} {i : Fin 4} {l : SeatLine} (h : LineStep v[i] l) :
    LinesStep v (setAt v i l) := by
  intro j
  by_cases hij : i = j
  · subst hij; rw [setAt_self]; exact h
  · rw [setAt_other v i j l hij]; exact .kept

/-- Power-on puts every line at its power-on values (R74). -/
theorem powerOn_linesStep (v : Vector SeatLine 4) (pending : List Instr) (pins : Pins) (out : Outputs) :
    LinesStep v (State.powerOn pending pins out).lines := by
  intro i
  have hinitial : (State.powerOn pending pins out).lines[i] = SeatLine.initial := by simp [State.powerOn]
  exact hinitial ▸ .poweredOn

/-! ### Messages -/

theorem judged_linesStep {cs : List (Bool × Result)} {s t : State} (h : LinesStep s.lines t.lines) :
    LinesStep s.lines (judged cs s t).state.lines := by
  unfold judged; split
  · exact .rfl _
  · exact h

theorem judged_linesKept {cs : List (Bool × Result)} {s t : State} (h : t.lines = s.lines) :
    LinesStep s.lines (judged cs s t).state.lines := judged_linesStep (.of_eq h)

theorem answered_linesStep (cs : List (Bool × Result)) (s : State) (d : List Word) :
    LinesStep s.lines (answered cs s d).state.lines := .of_eq (congrArg State.lines (answered_state cs s d))

theorem clipStartOutcome_lines (ticket : Nat) (s : State) : (clipStartOutcome ticket s).state.lines = s.lines := by
  have hstale : (refuse .state (offerReport (abortReport ticket .stale) s)).state.lines = s.lines :=
    (offerReport_frame _ s).lines
  unfold clipStartOutcome; split
  · exact hstale
  · split
    · split
      · split
        · rfl
        · dsimp only; split
          · exact (startPlaying_frame _).lines
          · rfl
      · rfl
      · exact hstale
      · exact hstale
    · exact hstale

theorem judgeClipStart_lines (strict : Bool) (p : List Word) (s : State) :
    (judgeClipStart strict p s).state.lines = s.lines := by
  unfold judgeClipStart; split
  · rfl
  · exact clipStartOutcome_lines _ s

theorem judgeReadStatus_lines (strict : Bool) (p : List Word) (s : State) :
    (judgeReadStatus strict p s).state.lines = s.lines := by
  unfold judgeReadStatus; split
  · rfl
  · dsimp only; split <;> rfl

/-- A message changes a line by Set Seat Line or by Restart, or not at all (R70, R74). -/
theorem judgeKind_linesStep (k : MsgKind) (strict : Bool) (p : List Word) (s : State) :
    LinesStep s.lines (judgeKind k strict p s).state.lines := by
  cases k <;> dsimp only [judgeKind]
  case setSeatLine => exact judged_linesStep (.setAt (.written _ _ _ _))
  case restart =>
    refine judged_linesStep fun i => ?_
    have hline : (restartState s).lines[i] = restartLine s.lines[i] := mapTable_get restartLine s.lines i
    exact hline ▸ .restarted
  case clipStart => exact .of_eq (judgeClipStart_lines strict p s)
  case readStatus => exact .of_eq (judgeReadStatus_lines strict p s)
  case position =>
    refine judged_linesKept ?_; split
    · exact (takeFix_frame _ _ s).lines
    · rfl
  case tour => exact judged_linesKept (tourAction_frame _ s).lines
  case announce => exact judged_linesKept (offer_frame _ s).lines
  case cancel => exact judged_linesKept (cancelAction_frame p s).lines
  case marker => exact judged_linesKept (raise_frame _ s).lines
  case readLanes | readSeat | readLine | readStops | readQueue | readZones | readCues | readNotices =>
    exact answered_linesStep _ s _
  case clipEnd => exact judged_linesKept (toTrailing_frame _ s).lines
  case setCarousel => exact judged_linesKept (State.withSeats_lines (s.withProg _) _)
  case setLane => exact judged_linesKept (State.withProg_lines s _)
  case setSeat | setSeatRange => exact judged_linesKept (State.withSeats_lines s _)
  case setAudio => exact judged_linesKept (State.withMixer_lines s _)
  case setRoute | writeStops => exact judged_linesKept (State.withRoute_lines s _)
  case setChime | setAnnounce => exact judged_linesKept (State.withAnn_lines s _)
  case setScene | setPattern | applyScene | setZones => exact judged_linesKept (State.withLights_lines s _)
  case setCue | setAmbient => exact judged_linesKept (State.withCues_lines s _)
  case setNotices | clearNotices => exact judged_linesKept (State.withNotices_lines s _)
  case setProfile => exact judged_linesKept (State.withPins_lines s _)

theorem judgeMessage_linesStep (h : MsgHead) (c : BitVec 6) (p : List Word) (s : State) :
    LinesStep s.lines (judgeMessage h c p s).state.lines := by
  unfold judgeMessage; dsimp only; split
  · exact .rfl _
  · split
    · exact .rfl _
    · split
      · exact .rfl _
      · exact judgeKind_linesStep _ _ p s

/-- Beside its verdict a message reaches no line: its Reply and the cue it may complete leave them (R29, R140). -/
theorem completeMessage_lines (h : MsgHead) (c : BitVec 6) (p : List Word) (s : State) :
    (completeMessage h c p s).lines = (judgeMessage h c p (decoderIdle s)).state.lines := by
  unfold completeMessage; dsimp only; split
  · exact (tryCue_frame _).lines.trans (reply_frame _ _ _ _ _).lines
  · exact (reply_frame _ _ _ _ _).lines

theorem completeMessage_linesStep (h : MsgHead) (c : BitVec 6) (p : List Word) (s : State) :
    LinesStep s.lines (completeMessage h c p s).lines := by
  rw [completeMessage_lines]; exact judgeMessage_linesStep h c p (decoderIdle s)

theorem receive_linesStep (h : MsgHead) (c : BitVec 6) (p : List Word) (s : State) :
    LinesStep s.lines (receive h c p s).lines := by
  unfold receive; split
  · exact .rfl _
  · split
    · exact .of_eq (reply_frame _ _ _ _ s).lines
    · exact completeMessage_linesStep h c p s

theorem running_linesStep {f : State → State} {s : State} (hf : LinesStep s.lines (f s).lines) :
    LinesStep s.lines (running f s).lines := by
  unfold running; split
  · exact .rfl _
  · exact hf

/-! ### Trunk words -/

theorem dataWord_lines (w : Word) (s : State) : (dataWord w s).lines = s.lines := by
  unfold dataWord; split
  · split <;> rfl
  · split
    · rfl
    · exact (reply_frame _ _ _ _ s).lines

/-- The second word of a pair in IN_MESSAGE reaches the lines only as the EOM of a message with a header (R23). -/
theorem messagePair_linesStep (w : Word) (s : State) : LinesStep s.lines (messagePair w s).lines := by
  have hframing : ∀ h, (refuseFraming h s).lines = s.lines := fun h => (reply_frame _ _ _ _ s).lines
  unfold messagePair; split
  · exact .of_eq (dataWord_lines w s)
  · split
    · repeat' split
      all_goals exact .rfl _
    · split
      · exact .of_eq (hframing _)
      · split
        · exact completeMessage_linesStep _ _ _ s
        · split
          · exact .rfl _
          · exact .of_eq (hframing _)

theorem outsidePair_lines (w : Word) (s : State) : (outsidePair w s).lines = s.lines := by
  unfold outsidePair; repeat' split
  all_goals rfl

theorem outsideWord_lines (w : Word) (s : State) : (outsideWord w s).lines = s.lines := by
  unfold outsideWord; repeat' split
  all_goals rfl

theorem messageWord_lines (w : Word) (s : State) : (messageWord w s).lines = s.lines := by
  unfold messageWord; repeat' split
  · rfl
  · rfl
  · exact dataWord_lines w s

theorem discardWord_lines (w : Word) (s : State) : (discardWord w s).lines = s.lines := by
  unfold discardWord; repeat' split
  all_goals rfl

theorem controlWord_linesStep (w : Word) (s : State) : LinesStep s.lines (controlWord w s).lines := by
  unfold controlWord; split
  · split
    · exact .of_eq (outsidePair_lines w s)
    · exact .of_eq (outsideWord_lines w s)
  · split
    · exact messagePair_linesStep w s
    · exact .of_eq (messageWord_lines w s)
  · exact .of_eq (discardWord_lines w s)

/-- A good frame reaches the lines through its control word alone (R5). -/
theorem takeGood_linesStep (words : List Word) (s : State) : LinesStep s.lines (takeGood words s).lines := by
  unfold takeGood; dsimp only
  rw [countGap_lines]
  exact (controlWord_linesStep _ _).of_before (storeJoin_lines _ _)

theorem trunkReceive_linesStep (w : Word) (s : State) : LinesStep s.lines (trunkReceive w s).lines := by
  unfold trunkReceive trunkEvent; dsimp only; split
  · exact .rfl _
  · exact .rfl _
  · split
    · exact (takeGood_linesStep _ _).of_before (State.withTrunk_lines s _)
    · exact .of_eq (takeBad_lines _)

theorem trunkWord_linesStep (w : Word) (s : State) : LinesStep s.lines (trunkWord w s).lines :=
  running_linesStep (s := repeatWord w s) (trunkReceive_linesStep w _)

/-! ### Replies -/

/-- A valid reply changes its line alone (R62). -/
theorem judgeValid_lines (i : Fin 4) (box : Fin 8) (words : List Word) (s : State) :
    (judgeValid i box words s).lines = setAt s.lines i (lineValid box words s.lines[i]) := by
  unfold judgeValid; dsimp only
  rw [deliverKeys_lines, deliverKeys_lines, setCauseIf_lines, setCauseIf_lines]; rfl

theorem takeReplyWord_linesStep (i : Fin 4) (w : Word) (s : State) :
    LinesStep s.lines (takeReplyWord i w s).lines := by
  unfold takeReplyWord; split
  · exact .rfl _
  next p hpoll =>
    split
    · exact .rfl _
    · split
      · rw [judgeValid_lines]; exact .setAt (.replied w hpoll)
      · exact .setAt (.wordTaken w hpoll)

theorem replyEvent_linesStep (i : Fin 4) (w : Word) (s : State) : LinesStep s.lines (replyEvent i w s).lines :=
  running_linesStep (takeReplyWord_linesStep i w s)

/-! ### Output frames -/

theorem storeTake_lines (s : State) : (storeTake s).2.lines = s.lines := by
  unfold storeTake; split <;> rfl

theorem prepared_lines (f : LaneFrame) (s : State) : (prepared f s).lines = s.lines := by
  simp [prepared, rampStep, crossfadeStep, meterSample]

theorem sendReturnIf_lines (b : Bool) (s : State) : (sendReturnIf b s).lines = s.lines := by
  unfold sendReturnIf; split
  · unfold sendReturnFrame; dsimp only; rw [replySlot_frame]; rfl
  · rfl

theorem meterBlock_lines (s : State) : (meterBlock s).lines = s.lines := by
  unfold meterBlock; split
  · rfl
  · exact (silenceCheck_frame _).lines

theorem frameEvents_lines (b : Bool) (s : State) : (frameEvents b s).lines = s.lines := by
  have htrailing : (trailingEvent s).lines = s.lines := by
    unfold trailingEvent; split
    · exact (leaveTrailing_frame s).lines
    · rfl
  have hchime : ∀ t, (chimeEvent b t).lines = t.lines := by
    intro t; unfold chimeEvent; split
    · exact (chimeEnded_frame t).lines
    · rfl
  exact (hchime _).trans ((meterBlock_lines _).trans htrailing)

theorem sendFrame_lines (o : FrameOrder) (start : State) (f : LaneFrame) (s : State) :
    (sendFrame o start f s).lines = mapTable lineSent (closePolls (mapTable (!·) o.pollsFirst) s).lines := by
  unfold sendFrame sendPa sendSeatFrames closePolls
  simp [setCauseIf_lines, chimeStep]

/-- In an output frame every reply window closes, and then every enabled line is polled (R57, R61). -/
theorem runFrame_lines (o : FrameOrder) (s : State) (i : Fin 4) :
    (runFrame o s).lines[i] = lineSent (lineClosed s.lines[i]) := by
  unfold runFrame; dsimp only
  rw [sendReturnIf_lines, frameEvents_lines, sendReturnIf_lines, sendFrame_lines, mapTable_get, closePolls_lines]
  rw [prepared_lines, storeTake_lines, ← closePolls_lines, closePolls_rest]

theorem outputFrame_running {o : FrameOrder} {s : State} (h : s.pins.held = false) :
    outputFrame o s = runFrame o s := by simp [outputFrame, h]

theorem outputFrame_linesStep (o : FrameOrder) (s : State) : LinesStep s.lines (outputFrame o s).lines := by
  unfold outputFrame; split
  · exact .rfl _
  · intro i; rw [runFrame_lines]; exact .framed

/-! ### Every command -/

theorem message_linesStep (k : MsgKind) (h : MsgHead) (p : List Word) (s : State) :
    ∃ t, message k h p s = .next t ∧ LinesStep s.lines t.lines :=
  ⟨_, rfl, running_linesStep (receive_linesStep h _ p s)⟩

theorem powerOnCommand_linesStep (power : PowerUp) (s : State) :
    ∃ t, execPowerOn power s = .next t ∧ LinesStep s.lines t.lines := by
  refine ⟨_, rfl, ?_⟩
  split
  · unfold powerStands; split <;> exact powerOn_linesStep _ _ _ _
  · exact .rfl _

theorem unknownMessage_linesStep (h : MsgHead) (c : BitVec 6) (p : List Word) (s : State) :
    ∃ t, execUnknownMessage h c p s = .next t ∧ LinesStep s.lines t.lines := by
  refine ⟨_, rfl, ?_⟩
  split
  · exact .rfl _
  · exact running_linesStep (receive_linesStep h c p s)

/-- A row that names what comes about inside a step does to the lines what that step does, or nothing. -/
theorem occurrence_linesStep (due : Bool) {f : State → State} (hf : ∀ s, LinesStep s.lines (f s).lines) (s : State) :
    ∃ t, occurrence due f s = .next t ∧ LinesStep s.lines t.lines :=
  occurrence_next due f s (fun t => LinesStep s.lines t.lines) (.rfl _) (hf s)

/-- Every command takes each seat line through one step of `LineStep`. -/
theorem exec_linesStep (c : Instr) (s : State) : ∃ t, exec c s = .next t ∧ LinesStep s.lines t.lines := by
  have htick : ∀ b s, LinesStep s.lines (tickEvent b s).lines := fun b s => .of_eq (tickEvent_lines b s)
  have hlight : ∀ s, LinesStep s.lines (lightEvent s).lines := fun s => .of_eq (lightEvent_lines s)
  have hroute : ∀ s, LinesStep s.lines (routeEvent s).lines := fun s => .of_eq (routeEvent_lines s)
  have hambient : ∀ x s, LinesStep s.lines (ambientEvent x s).lines := fun x s => .of_eq (ambientEvent_lines x s)
  cases c
  case powerOn power => exact powerOnCommand_linesStep power s
  case resetAssert => exact ⟨_, rfl, .rfl _⟩
  case resetRelease straps => exact ⟨_, rfl, powerOn_linesStep _ _ _ _⟩
  case trunkWord w => exact ⟨_, rfl, trunkWord_linesStep w s⟩
  case localTick b => exact ⟨_, rfl, htick b s⟩
  case outputFrame o => exact ⟨_, rfl, outputFrame_linesStep o s⟩
  case seatReplyWord i w => exact ⟨_, rfl, replyEvent_linesStep i w s⟩
  case returnInWord w => exact ⟨_, rfl, .of_eq (returnInWord_lines w s)⟩
  case lightTick => exact ⟨_, rfl, hlight s⟩
  case routeTick => exact ⟨_, rfl, hroute s⟩
  case announceCue => exact ⟨_, rfl, .of_eq (running_lines (fun t => (tryCue_frame t).lines) s)⟩
  case ambientSample x => exact ⟨_, rfl, hambient x s⟩
  case healthLost b | healthRestored b | notBeforeReached b | cueTimeout b | maxPlayTime b =>
    exact occurrence_linesStep _ (htick b) s
  case callHoldoffExpiry _ b => exact occurrence_linesStep _ (htick b) s
  case meterBlockEnd o | silenceEnd o | chimeNoteEnd o | chimeEnd o | trailingEnd o =>
    exact occurrence_linesStep _ (outputFrame_linesStep o) s
  case fadeSwitch _ o | fadeInComplete _ o | boxLost _ o =>
    exact occurrence_linesStep _ (outputFrame_linesStep o) s
  case jackConfirmed i w | boxRegained i w => exact occurrence_linesStep _ (replyEvent_linesStep i w) s
  case overlayEnd => exact occurrence_linesStep _ hlight s
  case positionStale => exact occurrence_linesStep _ hroute s
  case bandConfirmed x | sensorJudgedInvalid x => exact occurrence_linesStep _ (hambient x) s
  case unknownMessage h c p => exact unknownMessage_linesStep h c p s
  all_goals exact message_linesStep _ _ _ s

theorem step_linesStep {s t : State} (h : step s = .next t) : LinesStep s.lines t.lines := by
  unfold step at h; split at h
  · cases h; exact .rfl _
  next c rest _ =>
    obtain ⟨u, hexec, hlines⟩ := exec_linesStep c (s.withPending rest)
    cases hexec.symm.trans h
    exact hlines

/-! ## The runs stay in range (R63) -/

/-- A box's runs lie in 0 to 255. -/
def RunsInRange (b : BoxState) : Prop := b.missRun ≤ 255 ∧ b.goodRun ≤ 255

/-- The runs of all of a line's boxes lie in range. -/
def LineRunsInRange (l : SeatLine) : Prop := ∀ b : Fin 8, RunsInRange l.boxes[b]

theorem boxRunsBounded_iff (s : State) : BoxRunsBounded s ↔ ∀ i : Fin 4, LineRunsInRange s.lines[i] := Iff.rfl

theorem boxValid_inRange (b : BoxState) : RunsInRange (boxValid b) := by
  rw [boxValid_eq]; exact ⟨Nat.zero_le _, Nat.min_le_left _ _⟩

theorem boxMissed_inRange (b : BoxState) : RunsInRange (boxMissed b) := by
  rw [boxMissed_eq]; exact ⟨Nat.min_le_left _ _, Nat.zero_le _⟩

theorem cleared_inRange (enabled : Bool) (openT shortT debounce : Nat) :
    LineRunsInRange (SeatLine.cleared enabled openT shortT debounce) := by
  intro b
  simp [SeatLine.cleared, RunsInRange, BoxState.initial]

/-- A line whose boxes are those of `l` but for one box in range has its runs in range where `l` has. -/
theorem LineRunsInRange.setBox {l l' : SeatLine} {box : Fin 8} {x : BoxState} (hl : LineRunsInRange l)
    (hx : RunsInRange x) (hboxes : l'.boxes = setAt l.boxes box x) : LineRunsInRange l' := by
  intro b
  rw [hboxes]
  by_cases hb : box = b
  · subst hb; rw [setAt_self]; exact hx
  · rw [setAt_other l.boxes box b x hb]; exact hl b

theorem lineSent_boxes (l : SeatLine) : (lineSent l).boxes = l.boxes := by
  unfold lineSent; split <;> rfl

theorem lineClosed_inRange {l : SeatLine} (hl : LineRunsInRange l) : LineRunsInRange (lineClosed l) := by
  unfold lineClosed; split
  · exact hl
  · exact hl.setBox (boxMissed_inRange _) rfl

theorem writeLine_inRange {l : SeatLine} (hl : LineRunsInRange l) (enabled : Bool) (openT shortT debounce : Nat) :
    LineRunsInRange (writeLine enabled openT shortT debounce l) := by
  unfold writeLine; split
  · exact hl
  · exact cleared_inRange _ _ _ _

theorem LineStep.keeps_inRange {l l' : SeatLine} (h : LineStep l l') (hl : LineRunsInRange l) : LineRunsInRange l' := by
  cases h with
  | kept => exact hl
  | poweredOn => exact cleared_inRange _ _ _ _
  | written enabled openT shortT debounce => exact writeLine_inRange hl enabled openT shortT debounce
  | restarted => exact cleared_inRange _ _ _ _
  | wordTaken w hpoll => exact hl
  | replied w hpoll => exact hl.setBox (boxValid_inRange _) rfl
  | framed => intro b; rw [lineSent_boxes]; exact lineClosed_inRange hl b

theorem step_keeps_boxRunsBounded {s t : State} (hs : BoxRunsBounded s) (h : step s = .next t) : BoxRunsBounded t :=
  (boxRunsBounded_iff t).mpr fun i => (step_linesStep h i).keeps_inRange ((boxRunsBounded_iff s).mp hs i)

/-! ## A valid reply and a missed poll -/

theorem validReply_of_sum {keys sense check : Word} (h : keys + sense + check = 0) :
    validReply [0x8000#16, keys, sense, check] = true := by
  have hsum : sumWords [keys, sense, check] = 0 := by simpa [sumWords, BitVec.add_assoc] using h
  simp [validReply, syncWord, hsum]

/-- The fourth word of a valid reply makes the line that of a valid reply (R61, R62). -/
theorem replyEvent_valid_line {i : Fin 4} {box : Fin 8} {keys sense check : Word} {s : State}
    (hs : s.pins.held = false) (hpoll : s.lines[i].poll = some ⟨box, [0x8000#16, keys, sense], false⟩)
    (hsum : keys + sense + check = 0) :
    (replyEvent i check s).lines[i] = lineValid box [0x8000#16, keys, sense, check] s.lines[i] := by
  have hjudged : replyEvent i check s = judgeValid i box [0x8000#16, keys, sense, check] s := by
    rw [replyEvent, running_free hs, takeReplyWord, hpoll]
    simp [validReply_of_sum hsum]
  rw [hjudged, judgeValid_lines, setAt_self]

/-- A valid reply judges its own box (R63, R64). -/
theorem lineValid_box (box : Fin 8) (words : List Word) (l : SeatLine) :
    (lineValid box words l).boxes[box] = boxValid l.boxes[box] := setAt_self l.boxes box _

/-- A window that closes with its poll not judged misses its box (R61, R63). -/
theorem lineClosed_box {l : SeatLine} {p : Poll} (hpoll : l.poll = some p) (hp : p.judged = false) :
    (lineClosed l).boxes[p.box] = boxMissed l.boxes[p.box] := by
  have hmissed : missedBox l = some p.box := by simp [missedBox, hpoll, hp]
  rw [lineClosed, hmissed]; exact setAt_self l.boxes p.box _

/-! ## Read Line (R73) -/

/-- The first word of a payload as a number, where it fits a word. -/
theorem argN_payload {n : Nat} (h : n < 65536) : argN (payload [n]) 1 = n := by
  simp [argN, arg, payload, word, Nat.mod_eq_of_lt h]

theorem lineOf_payload (i : Fin 4) : lineOf (payload [i.val]) = i := by
  have hi : argN (payload [i.val]) 1 = i.val := argN_payload (by omega)
  simp [lineOf, hi]

theorem judgeReadLine_payload (strict : Bool) (i : Fin 4) (s : State) :
    judgeReadLine strict (payload [i.val]) s = ⟨.accepted, readLineData s.lines[i], s⟩ := by
  have hi : argN (payload [i.val]) 1 = i.val := argN_payload (by omega)
  have hrange : i.val ≤ 3 := by omega
  have hpass : firstFailure (lengthChecks strict 1 (payload [i.val]) ++ [(outside 0 3 (argN (payload [i.val]) 1),
      Result.range)]) = none := by
    rw [firstFailure_none_iff, hi]
    simp [lengthChecks, outside, payload, hrange]
  simp only [judgeReadLine, answered_pass hpass, lineOf_payload]

/-- Read Line queues its Reply and changes nothing else (R29, R73). -/
theorem exec_readLine {h : MsgHead} {s : State} (ha : Addressed h s) (i : Fin 4) :
    exec (.readLine h (payload [i.val])) s =
      .next (offerReport ⟨0x3F#6, h.tag, 0x0C :: 0 :: readLineData s.lines[i]⟩ (decoderIdle s)) := by
  have hjudged : judgeKind .readLine (s.pins.profile == .strict) (payload [i.val]) (decoderIdle s) =
      ⟨.accepted, readLineData s.lines[i], decoderIdle s⟩ := judgeReadLine_payload _ i (decoderIdle s)
  calc exec (.readLine h (payload [i.val])) s
      = message .readLine h (payload [i.val]) s := rfl
    _ = .next (completeMessage h (kindCode .readLine) (payload [i.val]) s) :=
        ha.message_eq .readLine (by simp [payload])
    _ = .next (reply h (kindCode .readLine) .accepted (readLineData s.lines[i]) (decoderIdle s)) :=
        congrArg Host.Outcome.next (ha.completeMessage_eq _ rfl hjudged)
    _ = _ := rfl

/-- The fifth to twelfth words of the Read Line data are the runs of the boxes (R73). -/
theorem readLineData_runs (l : SeatLine) (b : Fin 8) :
    (readLineData l)[b.val + 4]? = some (word (l.boxes[b].missRun + l.boxes[b].goodRun * 256)) := by
  rw [readLineData, List.append_assoc, List.getElem?_append_right (Nat.le_add_left 4 b.val)]
  change (_ ++ _)[b.val]? = _
  rw [List.getElem?_append_left (by simp)]
  simp

/-- Two numbers of a byte each, read back from the bytes of their word. -/
theorem word_bytes {low high : Nat} (hlow : low ≤ 255) (hhigh : high ≤ 255) :
    ((word (low + high * 256)).extractLsb' 0 8).toNat = low ∧
      ((word (low + high * 256)).extractLsb' 8 8).toNat = high := by
  simp only [word, BitVec.extractLsb'_toNat, BitVec.toNat_ofNat, Nat.shiftRight_eq_div_pow]
  omega

/-- Settles O26: a reply and a missed poll show `boxValid_eq` and `boxMissed_eq` on the polled box, Read Line shows
`readLineData_runs`, and each of the changes of a line that `LineStep` lists keeps the runs in range. -/
theorem boxRunsCountRepliesAndMissedPolls : Obligations.BoxRunsCountRepliesAndMissedPolls := by
  refine ⟨?validReply, ?missedPoll, ?readLine, fun s t hs h => step_keeps_boxRunsBounded hs h⟩
  case validReply =>
    intro i box keys sense check s hs hpoll hsum
    refine ⟨_, rfl, ?_⟩
    rw [replyEvent_valid_line hs hpoll hsum, lineValid_box, boxValid_eq]
  case missedPoll =>
    intro i o s p hs hpoll hp
    refine ⟨_, rfl, ?_⟩
    rw [outputFrame_running hs, runFrame_lines, lineSent_boxes, lineClosed_box hpoll hp, boxMissed_eq]
  case readLine =>
    intro h s i b ha hs
    obtain ⟨hmiss, hgood⟩ := hs i b
    exact ⟨_, _, exec_readLine ha i, readLineData_runs _ b, word_bytes hmiss hgood⟩

end Sys2Proof.Machine

/-! # Proofs: the ranges of the mix (O18) -/

namespace Sys2Proof.Machine

/-- A value within `n` times a gain stays within `n` times the full gain. -/
theorem natAbs_mul_gain_le {x : Int} {g n : Nat} (hx : x.natAbs ≤ n) (hg : g ≤ 32767) :
    (x * (g : Int)).natAbs ≤ n * 32767 := by
  rw [Int.natAbs_mul, Int.natAbs_natCast]
  exact Nat.mul_le_mul hx hg

/-- Above 16384 scaling takes at least one count off the bound of a value: at the full gain, the product with its
rounding already lies below 32768 times the bound (R94). -/
theorem natAbs_scale_le {x : Int} {g n : Nat} (hx : x.natAbs ≤ n + 1) (hg : g ≤ 32767) (hn : 16384 ≤ n) :
    (scale x g).natAbs ≤ n := by
  have hproduct := natAbs_mul_gain_le hx hg
  simp only [scale]
  omega

/-- Every value that the mix scales lies within 65532, so its product and the rounding fit in signed 32 bits (R100). -/
theorem product_fits {x : Int} {g : Nat} (hx : x.natAbs ≤ 65532) (hg : g ≤ 32767) :
    (x * (g : Int)).natAbs ≤ 65532 * 32767 ∧ (x * (g : Int) + 16384).natAbs < 2147483647 := by
  have hproduct := natAbs_mul_gain_le hx hg
  omega

/-- What is scaled from within the range of a sample lies within 32766: the inputs after their trims, P, Q, A and T
(R100). -/
theorem natAbs_scale_sample_le {x : Int} {g : Nat} (hx : x.natAbs ≤ 32767) (hg : g ≤ 32767) :
    (scale x g).natAbs ≤ 32766 := natAbs_scale_le hx hg (by decide)

/-- Settles O18: `natAbs_scale_sample_le` bounds the stages scaled from within a sample's range, `natAbs_scale_le` takes
one count off the bound of P + Q for S and one more for V, and `product_fits` bounds every product. Commentary and a bed
of 32767 at full gains carry S and V past the range of a sample. -/
theorem mixStagesStayInRange : Obligations.MixStagesStayInRange := by
  refine ⟨?ranges, ?exceeds⟩
  case ranges =>
    intro c b a t duck fade vol ann hc hb ha ht hctrim hbtrim hatrim hduck hfade hvol hann c' b' a' p q s v x y
    have hc' : c'.natAbs ≤ 32766 := natAbs_scale_sample_le hc hctrim
    have hb' : b'.natAbs ≤ 32766 := natAbs_scale_sample_le hb hbtrim
    have ha' : a'.natAbs ≤ 32766 := natAbs_scale_sample_le ha hatrim
    have hp : p.natAbs ≤ 32766 := natAbs_scale_sample_le (hc'.trans (by decide)) hduck
    have hq : q.natAbs ≤ 32766 := natAbs_scale_sample_le (hb'.trans (by decide)) hduck
    have hpq : (p + q).natAbs ≤ 65532 := (Int.natAbs_add_le p q).trans (Nat.add_le_add hp hq)
    have hs : s.natAbs ≤ 65531 := natAbs_scale_le hpq hfade (by decide)
    have hv : v.natAbs ≤ 65530 := natAbs_scale_le hs hvol (by decide)
    have hx : x.natAbs ≤ 32766 := natAbs_scale_sample_le (ha'.trans (by decide)) hann
    have hy : y.natAbs ≤ 32766 := natAbs_scale_sample_le ht hann
    have hvxy : (v + x + y).natAbs ≤ 131062 := by omega
    refine ⟨hc', hb', ha', hp, hq, hpq, hs, hv, hx, hy, hvxy, ?products, rfl⟩
    case products =>
      simp only [List.forall_mem_cons]
      exact ⟨product_fits (hc.trans (by decide)) hctrim, product_fits (hb.trans (by decide)) hbtrim,
        product_fits (ha.trans (by decide)) hatrim, product_fits (hc'.trans (by decide)) hduck,
        product_fits (hb'.trans (by decide)) hduck, product_fits hpq hfade, product_fits (hs.trans (by decide)) hvol,
        product_fits (ha'.trans (by decide)) hann, product_fits (ht.trans (by decide)) hann, List.forall_mem_nil _⟩
  case exceeds => exact ⟨⟨32767, 32767⟩, ⟨32767, 32767⟩, by decide⟩

end Sys2Proof.Machine

/-! # Proofs: Clip End (O47) -/

namespace Sys2Proof.Machine

/-! ## The active entry (R137) -/

/-- Changing the active entry into one that is still active changes what is read as the active entry. -/
theorem activeEntry_updateActive {f : Entry → Entry} (hf : ∀ e, isActive (f e) = true) (s : State) :
    activeEntry (updateActive f s) = (activeEntry s).map f := by
  have hsame : (isActive ∘ fun e => if isActive e then f e else e) = isActive := by
    funext e
    by_cases he : isActive e <;> simp [he, hf]
  change (s.ann.queue.map fun e => if isActive e then f e else e).find? isActive = _
  rw [List.find?_map, hsame]
  refine Option.map_congr fun e he => ?_
  have hactive : isActive e = true := List.find?_some he
  exact if_pos hactive

theorem length_updateActive (f : Entry → Entry) (s : State) :
    (updateActive f s).ann.queue.length = s.ann.queue.length := List.length_map _

theorem activeEntry_toTrailing (r : Reason) (s : State) :
    activeEntry (toTrailing r s) =
      (activeEntry s).map fun e => { e with state := .trailing, reason := some r } :=
  activeEntry_updateActive (fun _ => rfl) s

/-- A Reply leaves the active entry as it is. -/
theorem activeEntry_reply (h : MsgHead) (k : BitVec 6) (r : Result) (d : List Word) (s : State) :
    activeEntry (reply h k r d s) = activeEntry s := by
  rw [activeEntry, reply_ann, activeEntry]

/-- The decoder's return to OUTSIDE leaves the active entry as it is. -/
theorem activeEntry_decoderIdle (s : State) : activeEntry (decoderIdle s) = activeEntry s := rfl

theorem playingTicket_iff (n : Nat) (s : State) :
    playingTicket n s = true ↔ ∃ e, activeEntry s = some e ∧ e.state = .playing ∧ e.ticket = n := by
  simp [playingTicket, Option.any_eq_true]

/-! ## The reports of a Reply (R29) -/

theorem offerReport_reports_congr (r : Report) {s t : State} (h : s.reports = t.reports) :
    (offerReport r s).reports = (offerReport r t).reports := by
  unfold offerReport
  rw [h]
  split <;> simp [setCause]

/-- The report queue after a Reply hangs on the report queue before it alone. -/
theorem reply_reports_congr (h : MsgHead) (k : BitVec 6) (r : Result) (d : List Word) {s t : State}
    (hreports : s.reports = t.reports) : (reply h k r d s).reports = (reply h k r d t).reports := by
  unfold reply
  split
  · exact offerReport_reports_congr _ hreports
  · exact hreports

/-! ## Judging a Clip End (R145) -/

theorem outside_iff (lo hi n : Nat) : outside lo hi n = true ↔ n < lo ∨ hi < n := by simp [outside]

/-- The checks of a payload of one word, its ticket: RANGE, or the checks that follow decide. -/
theorem firstFailure_ticketChecks (strict : Bool) {n : Nat} (hn : n < 65536) (cs : List (Bool × Result)) :
    firstFailure (ticketChecks strict (payload [n]) ++ cs) =
      if outside 1 255 n then some .range else firstFailure cs := by
  rw [ticketChecks, argN_payload hn]
  cases outside 1 255 n <;> simp [lengthChecks, payload, firstFailure]

theorem judgeClipEnd_range (strict : Bool) {n : Nat} (s : State) (hn : n < 65536) (hout : outside 1 255 n = true) :
    judgeClipEnd strict (payload [n]) s = refuse .range s :=
  judged_fail (by rw [firstFailure_ticketChecks strict hn, if_pos hout])

theorem judgeClipEnd_playing (strict : Bool) {n : Nat} {s : State} (hn : n < 65536) (hin : outside 1 255 n ≠ true)
    (hplaying : playingTicket n s = true) :
    judgeClipEnd strict (payload [n]) s = ⟨.accepted, [], toTrailing .clipEnd s⟩ :=
  judged_pass (by rw [firstFailure_ticketChecks strict hn, if_neg hin, argN_payload hn, hplaying]; rfl)

theorem judgeClipEnd_state (strict : Bool) {n : Nat} {s : State} (hn : n < 65536) (hin : outside 1 255 n ≠ true)
    (hother : playingTicket n s = false) : judgeClipEnd strict (payload [n]) s = refuse .state s :=
  judged_fail (by rw [firstFailure_ticketChecks strict hn, if_neg hin, argN_payload hn, hother]; rfl)

/-- A Clip End of one word does what its verdict says and queues its Reply (R26, R29). -/
theorem exec_clipEnd {h : MsgHead} {s : State} (ha : Addressed h s) {n : Nat} {v : Verdict}
    (hv : judgeClipEnd (s.pins.profile == .strict) (payload [n]) (decoderIdle s) = v) :
    exec (.clipEnd h (payload [n])) s = .next (reply h 0x22#6 v.result v.data v.state) := by
  calc exec (.clipEnd h (payload [n])) s
      = message .clipEnd h (payload [n]) s := rfl
    _ = .next (completeMessage h (kindCode .clipEnd) (payload [n]) s) := ha.message_eq .clipEnd (by simp [payload])
    _ = .next (reply h (kindCode .clipEnd) v.result v.data v.state) :=
        congrArg Host.Outcome.next (ha.completeMessage_eq _ rfl hv)

/-- Settles O47: `exec_clipEnd` reduces each clause to its verdict, and the Reply keeps the announcement controller that
`toTrailing` leaves. -/
theorem clipEndEndsThePlayingEntryOrIsRefused : Obligations.ClipEndEndsThePlayingEntryOrIsRefused := by
  intro h s n ha hn
  have hword : n < 65536 := Nat.lt_succ_of_le hn
  refine ⟨fun hout => ?range, fun hlow hhigh => ?inRange⟩
  case range =>
    have hrange : outside 1 255 n = true := (outside_iff 1 255 n).mpr (hout.imp_left Nat.lt_one_iff.mpr)
    exact exec_clipEnd ha (judgeClipEnd_range _ _ hword hrange)
  case inRange =>
    have hin : outside 1 255 n ≠ true := by rw [ne_eq, outside_iff]; omega
    refine ⟨fun e he hplaying hticket => ?ends, fun hother => ?refused⟩
    case ends =>
      have htaken : playingTicket n (decoderIdle s) = true :=
        (playingTicket_iff n _).mpr ⟨e, he, hplaying, hticket⟩
      have hann := reply_ann h 0x22#6 .accepted [] (toTrailing .clipEnd (decoderIdle s))
      refine ⟨_, exec_clipEnd ha (judgeClipEnd_playing _ hword hin htaken), ?active, ?reports, ?chime, ?length⟩
      case active => rw [activeEntry_reply, activeEntry_toTrailing, activeEntry_decoderIdle, he]; rfl
      case reports => exact reply_reports_congr h 0x22#6 .accepted [] rfl
      case chime => exact congrArg Announcer.chime hann
      case length => rw [hann]; exact length_updateActive _ (decoderIdle s)
    case refused =>
      have hnone : playingTicket n (decoderIdle s) = false := by
        rw [Bool.eq_false_iff, ne_eq, playingTicket_iff]
        rintro ⟨e, he, hmatch⟩
        exact hother e he hmatch
      exact exec_clipEnd ha (judgeClipEnd_state _ hword hin hnone)

end Sys2Proof.Machine

/-! # Proofs: what a command comes to (O1, O2) -/

namespace Sys2Proof.Machine

set_option Elab.async false

/-- The commands that are power and the reset pin (R192, R193). -/
def isPin : Instr → Bool
  | .powerOn _ | .resetAssert | .resetRelease _ => true
  | _ => false

/-- What a command takes a state to: one of the block's events, a whole message, or nothing. A row that names what comes
about inside an event comes to that event or to nothing. -/
inductive Comes : Instr → State → State → Prop
  | nothing (c : Instr) (s : State) : Comes c s s
  | poweredOn {c : Instr} (s : State) (pins : Pins) (out : Outputs) (hc : isPin c = true) :
      Comes c s (State.powerOn s.pending pins out)
  | pinned {c : Instr} (s : State) (pins : Pins) (out : Outputs) (hc : isPin c = true) :
      Comes c s ((s.withPins pins).withOut out)
  | trunkWord (w : Word) (s : State) : Comes (.trunkWord w) s (trunkWord w s)
  | returnInWord (w : Word) (s : State) : Comes (.returnInWord w) s (returnInWord w s)
  | tick {c : Instr} (b : Bool) (s : State) (hc : isMessage c = false) : Comes c s (tickEvent b s)
  | frame {c : Instr} (o : FrameOrder) (s : State) (hc : isMessage c = false) : Comes c s (outputFrame o s)
  | replyWord {c : Instr} (i : Fin 4) (w : Word) (s : State) (hc : isMessage c = false) : Comes c s (replyEvent i w s)
  | light {c : Instr} (s : State) (hc : isMessage c = false) : Comes c s (lightEvent s)
  | route {c : Instr} (s : State) (hc : isMessage c = false) : Comes c s (routeEvent s)
  | cue {c : Instr} (s : State) (hc : isMessage c = false) : Comes c s (running tryCue s)
  | ambient {c : Instr} (x : BitVec 8) (s : State) (hc : isMessage c = false) : Comes c s (ambientEvent x s)
  | message {c : Instr} (h : MsgHead) (code : BitVec 6) (p : List Word) (s : State) (hc : isMessage c = true) :
      Comes c s (running (receive h code p) s)

theorem occurrence_comes {c : Instr} {due : Bool} {f : State → State} {s : State} (hf : Comes c s (f s)) :
    ∃ t, occurrence due f s = .next t ∧ Comes c s t :=
  occurrence_next due f s (Comes c s) (.nothing c s) hf

theorem powerOn_comes (power : PowerUp) (s : State) :
    ∃ t, execPowerOn power s = .next t ∧ Comes (.powerOn power) s t := by
  refine ⟨_, rfl, ?_⟩
  split
  · unfold powerStands; split <;> exact .poweredOn s _ _ rfl
  · exact .pinned s _ _ rfl

theorem unknownMessage_comes (h : MsgHead) (code : BitVec 6) (p : List Word) (s : State) :
    ∃ t, execUnknownMessage h code p s = .next t ∧ Comes (.unknownMessage h code p) s t := by
  refine ⟨_, rfl, ?_⟩
  split
  · exact .nothing _ s
  · exact .message h code p s rfl

/-- Every command answers a next state, which is one of those that `Comes` lists. -/
theorem exec_comes (c : Instr) (s : State) : ∃ t, exec c s = .next t ∧ Comes c s t := by
  cases c
  case powerOn power => exact powerOn_comes power s
  case resetAssert => exact ⟨_, rfl, .pinned s _ _ rfl⟩
  case resetRelease straps => exact ⟨_, rfl, .poweredOn s _ _ rfl⟩
  case trunkWord w => exact ⟨_, rfl, .trunkWord w s⟩
  case returnInWord w => exact ⟨_, rfl, .returnInWord w s⟩
  case localTick b => exact ⟨_, rfl, .tick b s rfl⟩
  case outputFrame o => exact ⟨_, rfl, .frame o s rfl⟩
  case seatReplyWord i w => exact ⟨_, rfl, .replyWord i w s rfl⟩
  case lightTick => exact ⟨_, rfl, .light s rfl⟩
  case routeTick => exact ⟨_, rfl, .route s rfl⟩
  case announceCue => exact ⟨_, rfl, .cue s rfl⟩
  case ambientSample x => exact ⟨_, rfl, .ambient x s rfl⟩
  case healthLost b | healthRestored b | notBeforeReached b | cueTimeout b | maxPlayTime b =>
    exact occurrence_comes (.tick b s rfl)
  case callHoldoffExpiry _ b => exact occurrence_comes (.tick b s rfl)
  case meterBlockEnd o | silenceEnd o | chimeNoteEnd o | chimeEnd o | trailingEnd o =>
    exact occurrence_comes (.frame o s rfl)
  case fadeSwitch _ o | fadeInComplete _ o | boxLost _ o => exact occurrence_comes (.frame o s rfl)
  case jackConfirmed i w | boxRegained i w => exact occurrence_comes (.replyWord i w s rfl)
  case overlayEnd => exact occurrence_comes (.light s rfl)
  case positionStale => exact occurrence_comes (.route s rfl)
  case bandConfirmed x | sensorJudgedInvalid x => exact occurrence_comes (.ambient x s rfl)
  case unknownMessage h code p => exact unknownMessage_comes h code p s
  all_goals exact ⟨_, rfl, .message _ _ _ s rfl⟩

/-- A step idles, or takes the front command off the queue and comes to what that command comes to. -/
theorem step_comes {s t : State} (h : step s = .next t) :
    t = s ∨ ∃ c rest, s.pending = c :: rest ∧ Comes c (s.withPending rest) t := by
  unfold step at h; split at h
  · cases h; exact .inl rfl
  next c rest hpending =>
    obtain ⟨u, hexec, hcomes⟩ := exec_comes c (s.withPending rest)
    cases hexec.symm.trans h
    exact .inr ⟨c, rest, hpending, hcomes⟩

/-- Settles O1: both clauses are the two cases of `step`. -/
theorem stepRunsFrontCommand : Obligations.StepRunsFrontCommand := by
  refine ⟨fun s c rest h => ?_, fun s h => ?_⟩ <;> simp [step, h]

/-! ## The queue of waiting commands -/

theorem TouchesTick.pending {s t : State} (h : TouchesTick s t) : t.pending = s.pending := by
  unfold TouchesTick at h; rw [h]

theorem TouchesFrame.pending {s t : State} (h : TouchesFrame s t) : t.pending = s.pending := by
  unfold TouchesFrame at h; rw [h]

theorem TouchesRoute.pending {s t : State} (h : TouchesRoute s t) : t.pending = s.pending := by
  unfold TouchesRoute at h; rw [h]

theorem TouchesMessage.pending {s t : State} (h : TouchesMessage s t) : t.pending = s.pending := by
  unfold TouchesMessage at h; rw [h]

theorem TouchesTrunk.pending {s t : State} (h : TouchesTrunk s t) : t.pending = s.pending := by
  unfold TouchesTrunk at h; rw [h]

/-- What leaves the waiting commands alone still does while the part may be held (R193). -/
theorem running_pending {f : State → State} (hf : ∀ s, (f s).pending = s.pending) (s : State) :
    (running f s).pending = s.pending := by
  unfold running; split
  · rfl
  · exact hf s

theorem passWord_pending (w : Word) (s : State) : (passWord w s).pending = s.pending := by
  unfold passWord; split <;> rfl

theorem lightTick_pending (s : State) : (lightTick s).pending = s.pending := by simp [lightTick]

/-- No command touches the queue of waiting commands. -/
theorem Comes.pending {c : Instr} {s t : State} (h : Comes c s t) : t.pending = s.pending := by
  cases h with
  | nothing => rfl
  | poweredOn => rfl
  | pinned => rfl
  | trunkWord w => exact (running_pending (fun u => (trunkReceive_frame w u).pending) _).trans rfl
  | returnInWord w =>
    exact (running_pending (fun u => by rw [returnReceive_frame]) _).trans (passWord_pending w s)
  | tick b => exact running_pending (fun u => (localTick_frame b u).pending) s
  | frame o => exact (outputFrame_frame o s).pending
  | replyWord i w => exact running_pending (fun u => by rw [takeReplyWord_frame]) s
  | light => exact running_pending lightTick_pending s
  | route => exact running_pending (fun u => (routeTick_frame u).pending) s
  | cue => exact running_pending (fun u => (tryCue_frame u).route.pending) s
  | ambient x => exact running_pending (fun u => by rw [ambientSample_frame]) s
  | message h code p => exact running_pending (fun u => (receive_frame h code p u).pending) s

/-- Settles O2: `exec_comes` gives the next state, and none of those it lists differs in the waiting commands. -/
theorem everyCommandCompletesAndKeepsTheQueue : Obligations.EveryCommandCompletesAndKeepsTheQueue := by
  intro c s
  obtain ⟨t, hexec, hcomes⟩ := exec_comes c s
  exact ⟨t, hexec, hcomes.pending⟩

end Sys2Proof.Machine

/-! # Proofs: the announcement queue as a list (R137) -/

namespace Sys2Proof.Machine

set_option Elab.async false

/-- The kind and subject of an entry, which no two entries of the queue share (R137). -/
def entryKey (e : Entry) : EntryKind × Nat := (e.kind, e.subject)

/-- A list of entries that may stand as the announcement queue (R137). -/
def QueueOk (q : List Entry) : Prop :=
  q.length ≤ 6 ∧ (q.filter isActive).length ≤ 1 ∧ (q.map entryKey).Nodup ∧ q.Pairwise Precedes

theorem queueSound_iff (s : State) : QueueSound s ↔ QueueOk s.ann.queue := Iff.rfl

theorem hasKey_iff (k : EntryKind) (n : Nat) (e : Entry) : hasKey k n e = true ↔ entryKey e = (k, n) := by
  simp [hasKey, entryKey]

theorem QueueOk.sublist {q q' : List Entry} (h : QueueOk q) (hsub : q'.Sublist q) : QueueOk q' := by
  obtain ⟨hlen, hactive, hkeys, hsorted⟩ := h
  exact ⟨hsub.length_le.trans hlen, (hsub.filter isActive).length_le.trans hactive, hkeys.sublist (hsub.map entryKey),
    hsorted.sublist hsub⟩

/-- The entries take new runtime values and keep what orders and names them. -/
def KeepsPlace (f : Entry → Entry) : Prop :=
  ∀ e, entryKey (f e) = entryKey e ∧ (f e).priority = e.priority ∧ (f e).entryTime = e.entryTime

theorem KeepsPlace.ite {f : Entry → Entry} (hf : KeepsPlace f) (p : Entry → Bool) :
    KeepsPlace fun e => if p e then f e else e := by
  intro e
  dsimp only
  split
  · exact hf e
  · exact ⟨rfl, rfl, rfl⟩

theorem KeepsPlace.map_key {f : Entry → Entry} (hf : KeepsPlace f) (q : List Entry) :
    (q.map f).map entryKey = q.map entryKey := by
  simp only [List.map_map, List.map_inj_left, Function.comp_apply]
  exact fun e _ => (hf e).1

theorem QueueOk.map {q : List Entry} (h : QueueOk q) {f : Entry → Entry} (hf : KeepsPlace f)
    (hactive : ((q.map f).filter isActive).length ≤ 1) : QueueOk (q.map f) := by
  obtain ⟨hlen, -, hkeys, hsorted⟩ := h
  refine ⟨by simpa using hlen, hactive, by rwa [hf.map_key], ?_⟩
  refine List.pairwise_map.mpr (hsorted.imp fun {a b} hab => ?_)
  unfold Precedes
  rw [(hf a).2.1, (hf b).2.1, (hf a).2.2, (hf b).2.2]
  exact hab

/-- No new entry becomes active, so no more are active than before. -/
theorem QueueOk.map_active {q : List Entry} (h : QueueOk q) {f : Entry → Entry} (hf : KeepsPlace f) :
    QueueOk (q.map fun e => if isActive e then f e else e) := by
  refine h.map (hf.ite isActive) (le_trans ?_ h.2.1)
  rw [← List.countP_eq_length_filter, ← List.countP_eq_length_filter, List.countP_map]
  refine List.countP_mono_left fun e _ => ?_
  by_cases he : isActive e <;> simp [he]

/-- The keys are distinct, so the entries of one key number at most one. -/
theorem QueueOk.countP_key {q : List Entry} (h : QueueOk q) (k : EntryKind) (n : Nat) :
    q.countP (hasKey k n) ≤ 1 := by
  have hcount := List.nodup_iff_count_le_one.mp h.2.2.1 (k, n)
  have hcongr : (fun e => entryKey e == (k, n)) = hasKey k n := by
    funext e
    rw [Bool.eq_iff_iff, hasKey_iff, beq_iff_eq]
  rwa [List.count, List.countP_map, Function.comp_def, hcongr] at hcount

/-- With none active, the entry of one key may become so. -/
theorem QueueOk.map_key {q : List Entry} (h : QueueOk q) (hidle : ∀ e ∈ q, isActive e = false) (k : EntryKind) (n : Nat)
    {f : Entry → Entry} (hf : KeepsPlace f) : QueueOk (q.map fun e => if hasKey k n e then f e else e) := by
  refine h.map (hf.ite (hasKey k n)) (le_trans ?_ (h.countP_key k n))
  rw [← List.countP_eq_length_filter, List.countP_map]
  refine List.countP_mono_left fun e he => ?_
  by_cases hk : hasKey k n e <;> simp [hk, hidle e he]

/-! ## Joining the queue -/

theorem standsBefore_iff (f e : Entry) : standsBefore f e = true ↔ Precedes f e := by
  unfold standsBefore Precedes
  simp

theorem precedes_of_not_standsBefore {f e : Entry} (h : ¬ standsBefore f e = true) : Precedes e f := by
  rw [standsBefore_iff] at h
  unfold Precedes at h ⊢
  omega

theorem Precedes.trans {a b c : Entry} (hab : Precedes a b) (hbc : Precedes b c) : Precedes a c := by
  unfold Precedes at *
  omega

theorem insertEntry_perm (e : Entry) (q : List Entry) : (insertEntry e q).Perm (e :: q) := by
  induction q with
  | nil => exact .refl _
  | cons f q ih =>
    rw [insertEntry]; split
    · exact (ih.cons f).trans (.swap e f q)
    · exact .refl _

theorem mem_insertEntry {e f : Entry} {q : List Entry} : f ∈ insertEntry e q ↔ f = e ∨ f ∈ q := by
  rw [(insertEntry_perm e q).mem_iff, List.mem_cons]

theorem insertEntry_sorted (e : Entry) {q : List Entry} (h : q.Pairwise Precedes) :
    (insertEntry e q).Pairwise Precedes := by
  induction q with
  | nil => exact List.pairwise_singleton _ _
  | cons f q ih =>
    obtain ⟨hfront, hrest⟩ := List.pairwise_cons.mp h
    rw [insertEntry]; split
    next hstands =>
      refine List.pairwise_cons.mpr ⟨fun x hx => ?_, ih hrest⟩
      rcases mem_insertEntry.mp hx with rfl | hx
      · exact (standsBefore_iff _ _).mp hstands
      · exact hfront x hx
    next hstands =>
      have hfirst := precedes_of_not_standsBefore hstands
      refine List.pairwise_cons.mpr ⟨fun x hx => ?_, h⟩
      rcases List.mem_cons.mp hx with rfl | hx
      · exact hfirst
      · exact hfirst.trans (hfront x hx)

/-- A WAITING entry of a new key may join a queue of fewer than six (R137, R139). -/
theorem QueueOk.insert {q : List Entry} (h : QueueOk q) {e : Entry} (hlen : q.length < 6) (he : isActive e = false)
    (hkey : entryKey e ∉ q.map entryKey) : QueueOk (insertEntry e q) := by
  obtain ⟨-, hactive, hkeys, hsorted⟩ := h
  have hperm := insertEntry_perm e q
  refine ⟨?_, ?_, ?_, insertEntry_sorted e hsorted⟩
  · rw [hperm.length_eq]; exact hlen
  · rw [(hperm.filter isActive).length_eq, List.filter_cons_of_neg (by simp [he])]; exact hactive
  · rw [(hperm.map entryKey).nodup_iff]; exact List.nodup_cons.mpr ⟨hkey, hkeys⟩

theorem key_free {q : List Entry} {e : Entry} (h : q.any (hasKey e.kind e.subject) = false) :
    entryKey e ∉ q.map entryKey := by
  rw [List.any_eq_false] at h
  rintro hmem
  obtain ⟨f, hf, hkey⟩ := List.mem_map.mp hmem
  exact h f hf ((hasKey_iff _ _ _).mpr hkey)

/-- The entry that leaves TRAILING may come back with another entry time: it is the one active entry, so its key is not
among the rest (R137, R153). -/
theorem QueueOk.rejoin {q : List Entry} (h : QueueOk q) {e e' : Entry} (hmem : e ∈ q) (hactive : isActive e = true)
    (hkey : entryKey e' = entryKey e) (hwaiting : isActive e' = false) :
    QueueOk (insertEntry e' (q.filter fun f => !isActive f)) := by
  refine (h.sublist List.filter_sublist).insert ?_ hwaiting ?_
  · refine lt_of_lt_of_le (List.length_filter_lt_length_iff_exists.mpr ⟨e, hmem, by simp [hactive]⟩) h.1
  · rw [hkey]
    rintro hin
    obtain ⟨f, hf, hfe⟩ := List.mem_map.mp hin
    obtain ⟨hfq, hfactive⟩ := List.mem_filter.mp hf
    rw [List.inj_on_of_nodup_map h.2.2.1 hfq hmem hfe] at hfactive
    simp [hactive] at hfactive

/-! ## The active entry -/

theorem activeEntry_none {s : State} (h : activeEntry s = none) : ∀ e ∈ s.ann.queue, isActive e = false := by
  intro e he
  simpa using List.find?_eq_none.mp h e he

theorem activeEntry_mem {s : State} {e : Entry} (h : activeEntry s = some e) :
    e ∈ s.ann.queue ∧ isActive e = true := ⟨List.mem_of_find?_eq_some h, List.find?_some h⟩

theorem isWaiting_eq_not_isActive (e : Entry) : isWaiting e = !isActive e := by
  simp [isWaiting, isActive, bne]

theorem isActive_eq_false_iff (e : Entry) : isActive e = false ↔ e.state = .waiting := by
  simp [isActive]

/-- The entry that an offer evicts is a WAITING one of the queue, of lower priority (R139). -/
theorem evictee_mem {p : Nat} {q : List Entry} {v : Entry} (h : evictee p q = some v) :
    v ∈ q ∧ isWaiting v = true := by
  unfold evictee at h; split at h
  · cases h
  · split at h
    · have hmem := List.mem_filter.mp (List.mem_of_getLast? h)
      simp only [Bool.and_eq_true] at hmem
      exact ⟨hmem.1, hmem.2.1⟩
    · cases h

end Sys2Proof.Machine

/-! # Proofs: what every operation keeps of a sound state (O55 to O60) -/

namespace Sys2Proof.Machine

set_option Elab.async false

/-- A change from `s` to `t` that keeps each invariant of Sys2Proof/Safety.lean but those of the seat lines, which
`LineStep` covers. A part that the change does not reach is kept as it is. -/
structure KeepsSound (s t : State) : Prop where
  reports : ReportsBounded s → ReportsBounded t := by exact id
  hold : HoldBounded s → HoldBounded t := by exact id
  store : StoreSound s → StoreSound t := by exact id
  queue : QueueSound s → QueueSound t := by exact id
  prog : ProgrammeSound s → ProgrammeSound t := by exact id
  stops : StopsSound s → StopsSound t := by exact id
  gains : GainsSound s → GainsSound t := by exact id

theorem KeepsSound.rfl (s : State) : KeepsSound s s := {}

theorem KeepsSound.trans {a b c : State} (h1 : KeepsSound a b) (h2 : KeepsSound b c) : KeepsSound a c :=
  ⟨h2.reports ∘ h1.reports, h2.hold ∘ h1.hold, h2.store ∘ h1.store, h2.queue ∘ h1.queue, h2.prog ∘ h1.prog,
    h2.stops ∘ h1.stops, h2.gains ∘ h1.gains⟩

theorem foldl_keepsSound {α : Type} {f : State → α → State} (hf : ∀ s a, KeepsSound s (f s a)) (l : List α)
    (s : State) : KeepsSound s (l.foldl f s) :=
  foldl_touches KeepsSound .rfl (fun h1 h2 => h1.trans h2) f hf l s

/-! ## Parts that no invariant reads -/

theorem withPending_keepsSound (x : List Instr) (s : State) : KeepsSound s (s.withPending x) := {}
theorem withNow_keepsSound (x : Nat) (s : State) : KeepsSound s (s.withNow x) := {}
theorem withPins_keepsSound (x : Pins) (s : State) : KeepsSound s (s.withPins x) := {}
theorem withOut_keepsSound (x : Outputs) (s : State) : KeepsSound s (s.withOut x) := {}
theorem withTrunk_keepsSound (x : TrunkRx) (s : State) : KeepsSound s (s.withTrunk x) := {}
theorem withCounters_keepsSound (x : Counters) (s : State) : KeepsSound s (s.withCounters x) := {}
theorem withMeter_keepsSound (x : Meter) (s : State) : KeepsSound s (s.withMeter x) := {}
theorem withDecoder_keepsSound (x : Decoder) (s : State) : KeepsSound s (s.withDecoder x) := {}
theorem withNotices_keepsSound (x : Notices) (s : State) : KeepsSound s (s.withNotices x) := {}
theorem withTx_keepsSound (x : Transmitter) (s : State) : KeepsSound s (s.withTx x) := {}
theorem withLines_keepsSound (x : Vector SeatLine 4) (s : State) : KeepsSound s (s.withLines x) := {}
theorem withLights_keepsSound (x : Lights) (s : State) : KeepsSound s (s.withLights x) := {}
theorem withCues_keepsSound (x : CueUnit) (s : State) : KeepsSound s (s.withCues x) := {}

theorem setCause_keepsSound (c : Cause) (s : State) : KeepsSound s (setCause c s) := withNotices_keepsSound _ s

theorem setCauseIf_keepsSound (b : Bool) (c : Cause) (s : State) : KeepsSound s (setCauseIf b c s) := by
  unfold setCauseIf; split
  · exact setCause_keepsSound c s
  · exact .rfl s

/-- Health, its runs and marks may change while it does not become LOST. -/
theorem withDog_keepsSound {x : Watchdog} {s : State} (h : x.health = .lost → s.dog.health = .lost) :
    KeepsSound s (s.withDog x) :=
  { store := fun hs => ⟨hs.1, fun hx => hs.2 (h hx)⟩ }

/-! ## Reports -/

theorem withReports_keepsSound {x : ReportQueue} {s : State} (h : ReportsBounded s → x.queue.length ≤ 16) :
    KeepsSound s (s.withReports x) :=
  { reports := h }

theorem offerReport_keepsSound (r : Report) (s : State) : KeepsSound s (offerReport r s) := by
  rcases offerReport_cases r s with ⟨hroom, h⟩ | ⟨-, h⟩ <;> rw [h]
  · refine withReports_keepsSound fun _ => ?_
    rw [List.length_append]; exact hroom
  · exact (withReports_keepsSound (by exact id)).trans (setCause_keepsSound _ _)

theorem reply_keepsSound (h : MsgHead) (k : BitVec 6) (r : Result) (d : List Word) (s : State) :
    KeepsSound s (reply h k r d s) := by
  unfold reply; split
  · exact offerReport_keepsSound _ s
  · exact .rfl s

/-! ## The announcement controller -/

/-- A change of the announcement controller that keeps its queue sound. -/
theorem withAnn_keepsSound {x : Announcer} {s : State} (h : QueueOk s.ann.queue → QueueOk x.queue) :
    KeepsSound s (s.withAnn x) :=
  { queue := h }

theorem withAnn_sameQueue {x : Announcer} {s : State} (h : x.queue = s.ann.queue := by rfl) :
    KeepsSound s (s.withAnn x) := withAnn_keepsSound fun hq => by rwa [h]

theorem setQueue_keepsSound {q : List Entry} {s : State} (h : QueueOk s.ann.queue → QueueOk q) :
    KeepsSound s (setQueue q s) := withAnn_keepsSound h

theorem removeWaiting_keepsSound (p : Entry → Bool) (s : State) : KeepsSound s (removeWaiting p s) :=
  setQueue_keepsSound fun h => h.sublist List.filter_sublist

theorem updateActive_keepsSound {f : Entry → Entry} (s : State)
    (hf : KeepsPlace f := by intro _; exact ⟨rfl, rfl, rfl⟩) : KeepsSound s (updateActive f s) :=
  setQueue_keepsSound fun h => h.map_active hf

theorem toTrailing_keepsSound (r : Reason) (s : State) : KeepsSound s (toTrailing r s) :=
  (updateActive_keepsSound s).trans withAnn_sameQueue

theorem becomePlaying_keepsSound (s : State) : KeepsSound s (becomePlaying s) :=
  (updateActive_keepsSound s).trans withAnn_sameQueue

theorem abortActive_keepsSound (r : Reason) (s : State) : KeepsSound s (abortActive r s) := by
  unfold abortActive; split
  · split
    · exact (offerReport_keepsSound _ s).trans (toTrailing_keepsSound _ _)
    · exact .rfl s
  · exact .rfl s

theorem cuedEntry_keepsPlace (ticket : Nat) (plan : List PlanPair) : KeepsPlace (cuedEntry ticket plan) :=
  fun _ => ⟨rfl, rfl, rfl⟩

/-- An entry is cued where no other is active (R140, R141). -/
theorem cueEntry_keepsSound (e : Entry) {s : State} (hidle : ∀ f ∈ s.ann.queue, isActive f = false) :
    KeepsSound s (cueEntry e s).1 := by
  unfold cueEntry; dsimp only
  have hcued : KeepsSound s (offerReport (cueReport e (nextTicket s.ann.ticket) (buildPlan s)) (s.withAnn { s.ann with
      queue := s.ann.queue.map fun f =>
        if hasKey e.kind e.subject f then cuedEntry (nextTicket s.ann.ticket) (buildPlan s) f else f
      ticket := nextTicket s.ann.ticket, cueTimer := 0, chime := startChime s.ann.slots (chimeSlot e) })) :=
    (withAnn_keepsSound fun h => h.map_key hidle _ _ (cuedEntry_keepsPlace _ _)).trans (offerReport_keepsSound _ _)
  split
  · exact hcued.trans (toTrailing_keepsSound _ _)
  · exact hcued

/-- A preempted entry is WAITING again, so the urgent one is cued with no other active (R149). -/
theorem preempted_idle (s : State) : ∀ f ∈ (updateActive preemptedEntry s).ann.queue, isActive f = false := by
  intro f hf
  obtain ⟨e, -, rfl⟩ := List.mem_map.mp hf
  cases he : isActive e
  · rw [if_neg (by simp)]; exact he
  · rw [if_pos rfl]; rfl

theorem preempt_keepsSound (a u : Entry) (s : State) : KeepsSound s (preempt a u s).1 := by
  unfold preempt; dsimp only
  have hpreempted : KeepsSound s (updateActive preemptedEntry (offerReport (abortReport a.ticket .preempted) s)) :=
    (offerReport_keepsSound _ s).trans (updateActive_keepsSound _)
  have hidle := preempted_idle (offerReport (abortReport a.ticket .preempted) s)
  split
  · refine (hpreempted.trans (removeWaiting_keepsSound _ _)).trans
      (KeepsSound.trans withAnn_sameQueue (cueEntry_keepsSound u fun f hf => hidle f ?_))
    exact (List.mem_filter.mp hf).1
  · exact hpreempted.trans (KeepsSound.trans withAnn_sameQueue (cueEntry_keepsSound u hidle))

/-- Beyond the insertion itself, an entry that joins preempts or does nothing (R137, R149). -/
theorem joinEntry_keepsSound {e : Entry} {s s' : State}
    (h : KeepsSound s (setQueue (insertEntry e s'.ann.queue) s')) : KeepsSound s (joinEntry e s').1 := by
  unfold joinEntry; dsimp only; split
  · exact h
  · split
    · exact h.trans (preempt_keepsSound _ _ _)
    · exact h

theorem offerEntry_keepsSound {e : Entry} (he : isActive e = false) (s : State) :
    KeepsSound s (offerEntry e s).1 := by
  unfold offerEntry; split
  · exact .rfl s
  next hnew =>
    have hkey : entryKey e ∉ s.ann.queue.map entryKey := key_free (by simpa using hnew)
    split
    next hroom => exact joinEntry_keepsSound (setQueue_keepsSound fun h => h.insert hroom he hkey)
    · split
      · exact offerReport_keepsSound _ s
      next v hv =>
        obtain ⟨hmem, hwaiting⟩ := evictee_mem hv
        have hqueue : (offerReport (droppedReport v) s).ann.queue = s.ann.queue := by rw [offerReport_ann]
        refine joinEntry_keepsSound ((offerReport_keepsSound (droppedReport v) s).trans (setQueue_keepsSound fun h => ?_))
        change QueueOk (insertEntry e ((offerReport (droppedReport v) s).ann.queue.filter _))
        rw [hqueue] at h ⊢
        refine (h.sublist List.filter_sublist).insert ?_ he
          fun hin => hkey ((List.filter_sublist.map entryKey).subset hin)
        refine lt_of_lt_of_le (List.length_filter_lt_length_iff_exists.mpr ⟨v, hmem, ?_⟩) h.1
        simp [hwaiting, hasKey]

theorem newEntry_waiting (kind : EntryKind) (subject priority : Nat) (policy : RepeatPolicy) (count now : Nat) :
    isActive (newEntry kind subject priority policy count now) = false := rfl

theorem finishEntry_keepsSound {e : Entry} {s : State} (he : activeEntry s = some e) :
    KeepsSound s (finishEntry e s) := by
  unfold finishEntry; dsimp only
  obtain ⟨hmem, hactive⟩ := activeEntry_mem he
  refine (offerReport_keepsSound (endedReport e) s).trans ?_
  have hqueue : (offerReport (endedReport e) s).ann.queue = s.ann.queue := by rw [offerReport_ann]
  split
  · refine setQueue_keepsSound fun h => h.rejoin (e := e) (by rwa [hqueue]) hactive rfl rfl
  · exact setQueue_keepsSound fun h => h.sublist List.filter_sublist

theorem announceTimers_keepsSound (s : State) : KeepsSound s (announceTimers s) := by
  unfold announceTimers; split
  · exact .rfl s
  · split
    · dsimp only; split
      · exact KeepsSound.trans withAnn_sameQueue (abortActive_keepsSound _ _)
      · exact withAnn_sameQueue
    · split
      · dsimp only; split
        · exact KeepsSound.trans withAnn_sameQueue (abortActive_keepsSound _ _)
        · exact withAnn_sameQueue
      · exact .rfl s

theorem silenceCheck_keepsSound (s : State) : KeepsSound s (silenceCheck s) := by
  unfold silenceCheck; split
  · exact .rfl s
  · dsimp only; split
    · split
      · exact (updateActive_keepsSound s).trans withAnn_sameQueue
      · split
        · split
          · exact KeepsSound.trans withAnn_sameQueue (toTrailing_keepsSound _ _)
          · exact withAnn_sameQueue
        · exact .rfl s
    · exact .rfl s

/-! ## Cue scans -/

theorem withMixer_keepsSound {x : Mixer} {s : State}
    (h : GainsSound s → x.duck ≤ 32767 ∧ ∀ i : Fin 65, x.volumes[i] ≤ 32767) : KeepsSound s (s.withMixer x) :=
  { gains := fun hs => ⟨(h hs).1, (h hs).2, hs.2.2⟩ }

theorem withSeats_keepsSound {x : SeatTable} {s : State} (h : GainsSound s → ∀ i : Fin 65, x.records[i].fade ≤ 32767) :
    KeepsSound s (s.withSeats x) :=
  { gains := fun hs => ⟨hs.1, hs.2.1, h hs⟩ }

theorem setAudio_keepsSound (a : AudioSettings) (s : State) : KeepsSound s (setAudio a s) :=
  withMixer_keepsSound fun h => ⟨h.1, h.2.1⟩

theorem doAction_keepsSound (a : CueAction) (s : State) : KeepsSound s (doAction a s).1 := by
  cases a with
  | scene | overlay | clear => exact withLights_keepsSound _ s
  | headsetCeiling | paCeiling | duckDepth => exact setAudio_keepsSound _ s
  | paSource => exact withSeats_keepsSound fun h => h.2.2
  | announce => exact offerEntry_keepsSound rfl s

theorem scanCue_keepsSound (t : Trigger) (acc : Raised) (i : Fin 32) : KeepsSound acc.1 (scanCue t acc i).1 := by
  unfold scanCue; dsimp only; split
  · exact doAction_keepsSound _ _
  · exact .rfl _

theorem scanOnce_keepsSound (t : Trigger) (s : State) : KeepsSound s (scanOnce t s).1 := by
  have h : ∀ (l : List (Fin 32)) (acc : Raised), KeepsSound acc.1 (l.foldl (scanCue t) acc).1 := by
    intro l
    induction l with
    | nil => intro acc; exact .rfl _
    | cons i l ih => intro acc; exact (scanCue_keepsSound t acc i).trans (ih _)
  exact h _ (s, [])

theorem raise_keepsSound (t : Trigger) (s : State) : KeepsSound s (raise t s) :=
  (scanOnce_keepsSound t s).trans (foldl_keepsSound (fun s' t' => scanOnce_keepsSound t' s') _ _)

theorem raiseAll_keepsSound (r : Raised) : KeepsSound r.1 (raiseAll r) :=
  foldl_keepsSound (fun s t => raise_keepsSound t s) _ _

theorem cueable_idle {s : State} {e : Entry} (h : cueable s = some e) : activeEntry s = none := by
  unfold cueable at h; split at h
  · cases h
  · split at h
    next hgo => simp only [Bool.and_eq_true, Option.isNone_iff_eq_none] at hgo; exact hgo.1.1.1
    · cases h

theorem tryCue_keepsSound (s : State) : KeepsSound s (tryCue s) := by
  unfold tryCue; split
  · exact .rfl s
  next h => exact (cueEntry_keepsSound _ (activeEntry_none (cueable_idle h))).trans (raiseAll_keepsSound _)

theorem leaveTrailing_keepsSound (s : State) : KeepsSound s (leaveTrailing s) := by
  unfold leaveTrailing; split
  · exact .rfl s
  next h => exact ((finishEntry_keepsSound h).trans (raise_keepsSound _ _)).trans (tryCue_keepsSound _)

theorem startPlaying_keepsSound (s : State) : KeepsSound s (startPlaying s) :=
  (becomePlaying_keepsSound s).trans (raise_keepsSound _ _)

theorem chimeEnded_keepsSound (s : State) : KeepsSound s (chimeEnded s) := by
  unfold chimeEnded; split
  · exact .rfl s
  · split
    · split
      · exact toTrailing_keepsSound _ s
      · split
        · exact startPlaying_keepsSound s
        · exact .rfl s
    · exact .rfl s

theorem offer_keepsSound {e : Entry} (he : isActive e = false) (s : State) : KeepsSound s (offer e s) :=
  (offerEntry_keepsSound he s).trans (raiseAll_keepsSound _)

/-! ## The local tick -/

theorem holdoffTick_keepsSound (s : State) : KeepsSound s (holdoffTick s) := by
  refine withSeats_keepsSound fun h i => ?_
  rw [mapTable_get]; exact h.2.2 i

theorem tickUsers_keepsSound (s : State) : KeepsSound s (tickUsers s) :=
  ((holdoffTick_keepsSound s).trans (announceTimers_keepsSound _)).trans (tryCue_keepsSound _)

/-- Health falls and the store is emptied with it (R11). -/
theorem fallen_keepsSound (s : State) :
    KeepsSound s ((s.withDog ⟨.lost, 0, 0, false⟩).withStore { s.store with frames := [], primed := false }) :=
  { store := fun _ => ⟨Nat.zero_le 4, fun _ => ⟨Eq.refl _, Eq.refl _⟩⟩ }

theorem healthFalls_keepsSound (s : State) : KeepsSound s (healthFalls s) := by
  unfold healthFalls; dsimp only
  exact (fallen_keepsSound s).trans ((setCause_keepsSound _ _).trans ((abortActive_keepsSound _ _).trans
    ((withLights_keepsSound _ _).trans (raise_keepsSound _ _))))

theorem healthRises_keepsSound (s : State) : KeepsSound s (healthRises s) := by
  unfold healthRises; dsimp only
  exact (withDog_keepsSound (fun h => by cases h)).trans ((setCause_keepsSound _ _).trans ((withLights_keepsSound _ _).trans
    ((tryCue_keepsSound _).trans ((raise_keepsSound _ _).trans (tryCue_keepsSound _)))))

theorem watchdogTick_keepsSound (s : State) : KeepsSound s (watchdogTick s) := by
  unfold watchdogTick; split
  · split
    · exact withDog_keepsSound id
    · split
      · exact withDog_keepsSound id
      · exact healthFalls_keepsSound s
  · split
    · split
      · exact withDog_keepsSound id
      · exact healthRises_keepsSound s
    · exact withDog_keepsSound id

theorem localTick_keepsSound (b : Bool) (s : State) : KeepsSound s (localTick b s) := by
  unfold localTick; dsimp only; split
  · exact (withNow_keepsSound _ s).trans ((watchdogTick_keepsSound _).trans (tickUsers_keepsSound _))
  · exact (withNow_keepsSound _ s).trans ((tickUsers_keepsSound _).trans (watchdogTick_keepsSound _))

/-! ## The ambient light input and the light tick -/

theorem ambientSample_keepsSound (x : Nat) (s : State) : KeepsSound s (ambientSample x s) := by
  unfold ambientSample; dsimp only
  have htaken := (withCues_keepsSound { s.cues with ambient := takeSample s.cues.ambient x } s).trans
    (setCauseIf_keepsSound ((x == 0 || 255 ≤ x) && s.cues.ambient.invalidRun + 1 == Config.invalidLimit) .sensorInvalid _)
  split
  · exact htaken
  · exact htaken.trans ((raise_keepsSound _ _).trans (tryCue_keepsSound _))

theorem lightTick_keepsSound (s : State) : KeepsSound s (lightTick s) :=
  (withLights_keepsSound _ s).trans (withOut_keepsSound _ _)

/-! ## The route tracker -/

/-- The metre and number of every stop, which the order and the limits of the stop table are about (R120). -/
def stopPlaces (r : Route) : List (Nat × Nat) := r.stops.map fun st => (st.metre, st.number)

theorem StopsSound.of_places {s t : State} (h : stopPlaces t.route = stopPlaces s.route) (hs : StopsSound s) :
    StopsSound t := by
  have hlen : t.route.stops.length = s.route.stops.length := by
    simpa [stopPlaces] using congrArg List.length h
  have hmetres : t.route.stops.map (·.metre) = s.route.stops.map (·.metre) := by
    simpa [stopPlaces, Function.comp_def] using congrArg (List.map Prod.fst) h
  have hnumbers : t.route.stops.map (·.number) = s.route.stops.map (·.number) := by
    simpa [stopPlaces, Function.comp_def] using congrArg (List.map Prod.snd) h
  unfold StopsSound
  rw [hlen, hmetres, hnumbers]
  exact hs

theorem setRoute_keepsSound {r : Route} {s : State} (h : stopPlaces r = stopPlaces s.route) :
    KeepsSound s (setRoute r s) :=
  { stops := fun hs => hs.of_places h }

theorem setRoute_sameStops {r : Route} {s : State} (h : r.stops = s.route.stops := by rfl) :
    KeepsSound s (setRoute r s) := setRoute_keepsSound (by unfold stopPlaces; rw [h])

theorem setLap_keepsSound (i : Nat) (lap : LapState) (s : State) : KeepsSound s (setLap i lap s) := by
  unfold setLap; split
  · exact .rfl s
  next st hst =>
    refine setRoute_keepsSound ?_
    unfold stopPlaces
    rw [List.map_set]
    refine List.ext_getElem? fun k => ?_
    by_cases hk : i = k
    · subst hk
      obtain ⟨hlt, rfl⟩ := List.getElem?_eq_some_iff.mp hst
      simp [hlt]
    · rw [List.getElem?_set_ne hk]

theorem returnToPending_keepsSound (p : Stop → Bool) (s : State) : KeepsSound s (returnToPending p s) := by
  unfold returnToPending
  refine (setRoute_keepsSound ?_).trans (removeWaiting_keepsSound _ _)
  unfold stopPlaces
  rw [List.map_map]
  refine List.map_congr_left fun st _ => ?_
  dsimp only [Function.comp_apply]
  split <;> rfl

theorem lapWrap_keepsSound (s : State) : KeepsSound s (lapWrap s) :=
  KeepsSound.trans setRoute_sameStops (returnToPending_keepsSound _ _)

theorem passStop_keepsSound (i : Nat) (st : Stop) (s : State) : KeepsSound s (passStop i st s) :=
  ((setLap_keepsSound i _ s).trans (removeWaiting_keepsSound _ _)).trans (offerReport_keepsSound _ _)

theorem arriveStop_keepsSound (i : Nat) (st : Stop) (s : State) : KeepsSound s (arriveStop i st s) := by
  unfold arriveStop; dsimp only
  refine KeepsSound.trans (KeepsSound.trans ?_ (raise_keepsSound _ _)) (offerReport_keepsSound _ _)
  have h := (setLap_keepsSound i .arrived s).trans (removeWaiting_keepsSound (hasKey .approach st.number) _)
  split
  · exact h.trans (offer_keepsSound (newEntry_waiting _ _ _ _ _ _) _)
  · exact h

theorem approachStop_keepsSound (i : Nat) (st : Stop) (s : State) : KeepsSound s (approachStop i st s) := by
  unfold approachStop; dsimp only
  refine KeepsSound.trans ?_ (raise_keepsSound _ _)
  split
  · exact (setLap_keepsSound i _ s).trans (offer_keepsSound (newEntry_waiting _ _ _ _ _ _) _)
  · exact setLap_keepsSound i _ s

theorem evaluateStop_keepsSound (s : State) (i : Nat) : KeepsSound s (evaluateStop s i) := by
  unfold evaluateStop; split
  · exact .rfl s
  · dsimp only; split
    · exact passStop_keepsSound _ _ _
    · split
      · exact arriveStop_keepsSound _ _ _
      · split
        · exact approachStop_keepsSound _ _ _
        · split
          · exact removeWaiting_keepsSound _ _
          · exact .rfl s

theorem evaluateStops_keepsSound (s : State) : KeepsSound s (evaluateStops s) := by
  unfold evaluateStops; split
  · exact foldl_keepsSound evaluateStop_keepsSound _ _
  · exact .rfl s

theorem placeFix_keepsSound (n : Nat) (s : State) : KeepsSound s (placeFix n s) := by
  unfold placeFix; dsimp only; split
  · exact setRoute_sameStops
  · split
    · exact (lapWrap_keepsSound s).trans setRoute_sameStops
    · split
      · exact setRoute_sameStops
      · split
        · exact KeepsSound.trans setRoute_sameStops (returnToPending_keepsSound _ _)
        · exact setRoute_sameStops

theorem takeFix_keepsSound (position speed : Nat) (s : State) : KeepsSound s (takeFix position speed s) :=
  ((placeFix_keepsSound _ s).trans setRoute_sameStops).trans (evaluateStops_keepsSound _)

theorem boundEstimate_keepsSound (s : State) : KeepsSound s (boundEstimate s) := by
  unfold boundEstimate; dsimp only; split
  · exact (lapWrap_keepsSound s).trans setRoute_sameStops
  · split
    · exact setRoute_sameStops
    · exact .rfl s

theorem reckon_places (r : Route) : stopPlaces (reckon r) = stopPlaces r := by
  unfold reckon; split <;> rfl

theorem routeTick_keepsSound (s : State) : KeepsSound s (routeTick s) := by
  unfold routeTick; split
  · dsimp only
    refine KeepsSound.trans ?_ (tryCue_keepsSound _)
    have hmoved := (setRoute_keepsSound (reckon_places s.route)).trans (boundEstimate_keepsSound _)
    split
    · exact ((hmoved.trans setRoute_sameStops).trans (setCauseIf_keepsSound _ _ _)).trans (evaluateStops_keepsSound _)
    · exact (hmoved.trans setRoute_sameStops).trans (setCauseIf_keepsSound _ _ _)
  · exact .rfl s

theorem clearForTour_keepsSound (s : State) : KeepsSound s (clearForTour s) :=
  (abortActive_keepsSound _ s).trans (removeWaiting_keepsSound _ _)

theorem tourStartSeats_keepsSound (s : State) : KeepsSound s (tourStartSeats s) := by
  refine withSeats_keepsSound fun _ i => ?_
  rw [mapTable_get]; exact Nat.le_refl 32767

theorem startedRoute_places (r : Route) : stopPlaces (startedRoute r) = stopPlaces r := by
  simp [stopPlaces, startedRoute, Function.comp_def]

theorem tourStart_keepsSound (s : State) : KeepsSound s (tourStart s) := by
  unfold tourStart; dsimp only
  exact (setRoute_keepsSound (startedRoute_places s.route)).trans ((clearForTour_keepsSound _).trans
    ((tourStartSeats_keepsSound _).trans (raise_keepsSound _ _)))

theorem tourPause_keepsSound (s : State) : KeepsSound s (tourPause s) := by
  unfold tourPause; dsimp only
  exact KeepsSound.trans setRoute_sameStops ((removeWaiting_keepsSound _ _).trans (raise_keepsSound _ _))

theorem tourResume_keepsSound (s : State) : KeepsSound s (tourResume s) := by
  unfold tourResume
  exact KeepsSound.trans setRoute_sameStops ((evaluateStops_keepsSound _).trans (raise_keepsSound _ _))

theorem tourEnd_keepsSound (s : State) : KeepsSound s (tourEnd s) := by
  unfold tourEnd; dsimp only
  have hended : KeepsSound s (clearForTour (setRoute { s.route with session := .idle } s)) :=
    KeepsSound.trans setRoute_sameStops (clearForTour_keepsSound _)
  split
  · exact hended
  · exact hended.trans (raise_keepsSound _ _)

theorem tourAction_keepsSound (n : Nat) (s : State) : KeepsSound s (tourAction n s) := by
  unfold tourAction; split
  · exact tourStart_keepsSound s
  · exact tourPause_keepsSound s
  · exact tourResume_keepsSound s
  · exact tourEnd_keepsSound s

end Sys2Proof.Machine

namespace Sys2Proof.Machine

set_option Elab.async false

/-! ## The return link -/

theorem withRet_keepsSound {x : ReturnIn} {s : State} (h : HoldBounded s → holdCount x.hold ≤ 32) :
    KeepsSound s (s.withRet x) :=
  { hold := h }

theorem setTrack_keepsSound {t : TrackState} {esc : Bool} {hold : List HeldMessage} {s : State}
    (h : HoldBounded s → holdCount hold ≤ 32) : KeepsSound s (setTrack t esc hold s) := withRet_keepsSound h

theorem setTrack_sameHold (t : TrackState) (esc : Bool) (s : State) : KeepsSound s (setTrack t esc s.ret.hold s) :=
  setTrack_keepsSound fun h => h

theorem holdCount_cons (m : HeldMessage) (h : List HeldMessage) : holdCount (m :: h) = m.words.length + holdCount h := by
  simp [holdCount]

theorem holdCount_append (a b : List HeldMessage) : holdCount (a ++ b) = holdCount a + holdCount b := by
  simp [holdCount]

/-- A change of the last message that adds at most `k` words to it adds at most `k` words to the hold buffer. -/
theorem holdCount_modifyLast {f : HeldMessage → HeldMessage} {k : Nat}
    (hf : ∀ m, (f m).words.length ≤ m.words.length + k) (h : List HeldMessage) :
    holdCount (modifyLast f h) ≤ holdCount h + k := by
  induction h with
  | nil => exact Nat.zero_le _
  | cons m ms ih =>
    cases ms with
    | nil =>
      have hm := hf m
      simp only [modifyLast, holdCount_cons]; omega
    | cons m' ms' =>
      rw [modifyLast, holdCount_cons, holdCount_cons m]
      omega

theorem truncated_words_le (unpaired : Bool) (m : HeldMessage) :
    (truncated unpaired m).words.length ≤ m.words.length + 0 := by
  cases unpaired <;> simp [truncated]

theorem truncateHeld_keepsSound (esc : Bool) (s : State) : KeepsSound s (truncateHeld esc s) :=
  setTrack_keepsSound fun h => (holdCount_modifyLast (truncated_words_le s.ret.esc) s.ret.hold).trans h

theorem openHeld_keepsSound (s : State) : KeepsSound s (openHeld s) := by
  unfold openHeld; split
  next hroom =>
    refine setTrack_keepsSound fun _ => ?_
    rw [holdCount_append]; exact hroom
  · exact (setTrack_sameHold _ _ s).trans (setCause_keepsSound _ _)

theorem inWord_keepsSound (w : Word) (s : State) : KeepsSound s (inWord w s) := by
  unfold inWord; split
  · exact .rfl s
  · split
    next hroom =>
      refine setTrack_keepsSound fun _ => ?_
      refine (holdCount_modifyLast (k := 1) (fun m => ?_) s.ret.hold).trans hroom
      simp
    · exact (truncateHeld_keepsSound _ s).trans (setCause_keepsSound _ _)

theorem inPair_keepsSound (w : Word) (s : State) : KeepsSound s (inPair w s) := by
  unfold inPair; split
  next hroom => exact setTrack_keepsSound fun _ => hroom
  · exact (truncateHeld_keepsSound _ s).trans (setCause_keepsSound _ _)

theorem trackWord_keepsSound (w : Word) (s : State) : KeepsSound s (trackWord w s) := by
  unfold trackWord; split
  · split
    · split
      · exact openHeld_keepsSound s
      · exact setTrack_sameHold _ _ s
    · exact setTrack_sameHold _ _ s
  · split
    · exact inPair_keepsSound w s
    · exact inWord_keepsSound w s
  · split
    · split
      · exact openHeld_keepsSound s
      · split <;> exact setTrack_sameHold _ _ s
    · exact setTrack_sameHold _ _ s

theorem trackLost_keepsSound (s : State) : KeepsSound s (trackLost s) := by
  unfold trackLost; split
  · exact setTrack_sameHold _ _ s
  · exact truncateHeld_keepsSound _ s
  · exact setTrack_sameHold _ _ s

theorem returnReceive_keepsSound (w : Word) (s : State) : KeepsSound s (returnReceive w s) := by
  unfold returnReceive returnEvent; dsimp only
  refine (withRet_keepsSound (x := { s.ret with rx := (lockStep 8 s.ret.rx w).1 }) fun h => h).trans ?_
  split
  · exact .rfl _
  · exact trackLost_keepsSound _
  · split
    · exact KeepsSound.trans (withRet_keepsSound (by exact id)) (trackWord_keepsSound _ _)
    · exact trackLost_keepsSound _

theorem passWord_keepsSound (w : Word) (s : State) : KeepsSound s (passWord w s) := by
  unfold passWord; split
  · exact withOut_keepsSound _ s
  · exact .rfl s

theorem setTx_keepsSound (m : TxMode) (t : Turn) (s : State) : KeepsSound s (setTx m t s) := withTx_keepsSound _ s

theorem setHold_keepsSound {h : List HeldMessage} {s : State} (hle : holdCount h ≤ holdCount s.ret.hold) :
    KeepsSound s (setHold h s) := withRet_keepsSound fun hs => hle.trans hs

theorem beginLocal_keepsSound {r : Report} {rest : List Report} {s : State} (h : s.reports.queue = r :: rest) :
    KeepsSound s (beginLocal r rest s).2 := by
  refine (withReports_keepsSound fun hs => ?_).trans (setTx_keepsSound _ _ _)
  unfold ReportsBounded at hs
  rw [h, List.length_cons] at hs
  exact Nat.le_of_succ_le hs

theorem forwardWord_keepsSound {m : HeldMessage} {others : List HeldMessage} (afterEsc : Bool) {s : State}
    (h : s.ret.hold = m :: others) : KeepsSound s (forwardWord m others afterEsc s).2 := by
  have hothers : holdCount others ≤ holdCount s.ret.hold := by rw [h, holdCount_cons]; omega
  have hafter : ∀ {w rest} (sentEsc : Bool), m.words = w :: rest →
      KeepsSound s (afterForward m rest others sentEsc s) := by
    intro w rest sentEsc hwords
    unfold afterForward; split
    · exact (setHold_keepsSound hothers).trans (setTx_keepsSound _ _ _)
    · refine (setHold_keepsSound ?_).trans (setTx_keepsSound _ _ _)
      simp only [h, holdCount_cons, hwords, List.length_cons]; omega
  unfold forwardWord; split
  · split
    · exact (setHold_keepsSound hothers).trans (setTx_keepsSound _ _ _)
    · exact setTx_keepsSound _ _ s
  next w rest hwords =>
    split
    · split
      · exact setTx_keepsSound _ _ s
      · exact hafter true hwords
    · exact hafter false hwords

theorem chooseWord_keepsSound (s : State) : KeepsSound s (chooseWord s).2 := by
  unfold chooseWord; split
  · exact .rfl s
  next hq _ => exact beginLocal_keepsSound hq
  next hh => exact forwardWord_keepsSound false hh
  next hq hh =>
    split
    · exact beginLocal_keepsSound hq
    · exact forwardWord_keepsSound false hh

theorem forwardSlot_keepsSound (afterEsc : Bool) (s : State) : KeepsSound s (forwardSlot afterEsc s).2 := by
  unfold forwardSlot; split
  · exact (setTx_keepsSound _ _ s).trans (chooseWord_keepsSound _)
  next m ms hh =>
    split
    · refine ((setHold_keepsSound ?_).trans (setTx_keepsSound _ _ _)).trans (chooseWord_keepsSound _)
      rw [hh, holdCount_cons]; omega
    · exact forwardWord_keepsSound afterEsc hh

theorem replySlot_keepsSound (s : State) : KeepsSound s (replySlot s).2 := by
  unfold replySlot; split
  · exact chooseWord_keepsSound s
  · exact (setTx_keepsSound _ _ s).trans (chooseWord_keepsSound _)
  · exact setTx_keepsSound _ _ s
  · exact setTx_keepsSound _ _ s
  · exact forwardSlot_keepsSound _ s
  · exact setTx_keepsSound _ _ s

theorem sendReturnIf_keepsSound (b : Bool) (s : State) : KeepsSound s (sendReturnIf b s) := by
  unfold sendReturnIf; split
  · unfold sendReturnFrame; dsimp only
    exact (replySlot_keepsSound s).trans ((withOut_keepsSound _ _).trans (withPins_keepsSound _ _))
  · exact .rfl s

/-! ## Replies -/

theorem deliverKeys_keepsSound (i : Fin 65) (k : Keys) (s : State) : KeepsSound s (deliverKeys i k s) := by
  unfold deliverKeys; dsimp only; split
  · exact .rfl s
  · have hpressed : KeepsSound s (s.withSeats { s.seats with
        records := setAt s.seats.records i (pressKeys s.prog.carousel k s.seats.records[i]) }) := by
      refine withSeats_keepsSound fun h j => ?_
      dsimp only
      by_cases hij : i = j
      · subst hij; rw [setAt_self]; exact h.2.2 i
      · rw [setAt_other _ _ _ _ hij]; exact h.2.2 j
    split
    · exact hpressed.trans (offerReport_keepsSound _ _)
    · exact hpressed

theorem takeReplyWord_keepsSound (i : Fin 4) (w : Word) (s : State) : KeepsSound s (takeReplyWord i w s) := by
  unfold takeReplyWord; split
  · exact .rfl s
  · split
    · exact .rfl s
    · split
      · unfold judgeValid; dsimp only
        exact ((withLines_keepsSound _ s).trans ((setCauseIf_keepsSound _ _ _).trans (setCauseIf_keepsSound _ _ _))).trans
          ((deliverKeys_keepsSound _ _ _).trans (deliverKeys_keepsSound _ _ _))
      · exact withLines_keepsSound _ s

/-! ## Gains -/

theorem volumeGain_le (step : Nat) : volumeGain step ≤ 32767 := by
  have htable : ∀ g ∈ volumeTable, g ≤ 32767 := by decide
  unfold volumeGain
  rw [List.getD_eq_getElem?_getD]
  cases hg : volumeTable[step]? with
  | none => exact Nat.zero_le _
  | some g => exact htable g (List.mem_of_getElem? hg)

theorem depthGain_le (depth : Nat) : depthGain depth ≤ 32767 := by
  unfold depthGain; split
  · exact Nat.div_le_self _ _
  · exact Nat.zero_le _

theorem duckTarget_le (s : State) : duckTarget s ≤ 32767 := by
  unfold duckTarget; split
  · exact depthGain_le _
  · exact Nat.le_refl 32767

theorem crossfade_fade_le (p : Programme) {r : SeatRecord} (h : r.fade ≤ 32767) : (crossfade p r).fade ≤ 32767 := by
  have hdown : r.fade - Config.fadeStep ≤ 32767 := (Nat.sub_le _ _).trans h
  have hup : min Config.fullGain (r.fade + Config.fadeStep) ≤ 32767 := Nat.min_le_left _ _
  unfold crossfade; dsimp only; split
  · split
    · exact h
    · exact hdown
  · split
    · exact hup
    · split
      · exact Nat.zero_le _
      · exact hdown
  · split
    · exact hup
    · exact hdown

theorem rampStep_keepsSound (s : State) : KeepsSound s (rampStep s) := by
  refine withMixer_keepsSound fun h => ⟨moveToward_le (duckTarget_le s) h.1, fun i => ?_⟩
  simp only [Fin.getElem_fin, Vector.getElem_ofFn]
  exact moveToward_le (volumeGain_le _) (h.2.1 i)

theorem prepared_keepsSound (f : LaneFrame) (s : State) : KeepsSound s (prepared f s) := by
  have hmeter : KeepsSound s (meterSample f s) := withMeter_keepsSound _ s
  have hfades : KeepsSound (meterSample f s) (crossfadeStep (meterSample f s)) := by
    refine withSeats_keepsSound fun h i => ?_
    rw [mapTable_get]; exact crossfade_fade_le _ (h.2.2 i)
  exact hmeter.trans (hfades.trans (rampStep_keepsSound _))

/-! ## The output frame -/

theorem closePolls_keepsSound (which : Vector Bool 4) (s : State) : KeepsSound s (closePolls which s) :=
  (withLines_keepsSound _ s).trans (setCauseIf_keepsSound _ _ _)

/-- The store hands frames over; its output is primed only while health is OK (R14). -/
theorem storeTake_keepsSound (s : State) : KeepsSound s (storeTake s).2 := by
  have hok : ∀ {u : State} {f fs p}, u.dog.health = .ok → (StoreSound u → fs.length ≤ 4) →
      KeepsSound u (handOver f fs p u).2 := fun hh hlen =>
    { store := fun h => ⟨hlen h, fun hlost => by cases hh.symm.trans hlost⟩ }
  have hslip : KeepsSound s (repeatSlip s) := (withCounters_keepsSound _ s).trans (setCause_keepsSound _ _)
  unfold storeTake; split
  · exact { store := fun h => h }
  next hh _ hf => exact hok hh fun h => by have := h.1; simp only [hf, List.length_cons] at this ⊢; omega
  next hh _ _ => exact hok hh fun h => h.1
  next hh _ hf => exact hok hh fun h => by have := h.1; simp only [hf, List.length_cons] at this; omega
  next hh _ _ => exact hslip.trans (hok (u := repeatSlip s) hh fun _ => Nat.zero_le 4)

theorem sendFrame_keepsSound (o : FrameOrder) (start : State) (f : LaneFrame) (s : State) :
    KeepsSound s (sendFrame o start f s) := by
  unfold sendFrame sendSeatFrames; dsimp only
  have hchime : KeepsSound s (chimeStep s) := withAnn_sameQueue
  exact (hchime.trans (closePolls_keepsSound _ _)).trans
    ((withOut_keepsSound _ _).trans ((withLines_keepsSound _ _).trans (withOut_keepsSound _ _)))

theorem frameEvents_keepsSound (b : Bool) (s : State) : KeepsSound s (frameEvents b s) := by
  have htrailing : KeepsSound s (trailingEvent s) := by
    unfold trailingEvent; split
    · exact leaveTrailing_keepsSound s
    · exact .rfl s
  have hmeter : ∀ u, KeepsSound u (meterBlock u) := by
    intro u; unfold meterBlock; split
    · exact .rfl u
    · exact (withMeter_keepsSound _ u).trans (silenceCheck_keepsSound _)
  have hchime : ∀ u, KeepsSound u (chimeEvent b u) := by
    intro u; unfold chimeEvent; split
    · exact chimeEnded_keepsSound u
    · exact .rfl u
  exact htrailing.trans ((hmeter _).trans (hchime _))

theorem outputFrame_keepsSound (o : FrameOrder) (s : State) : KeepsSound s (outputFrame o s) := by
  unfold outputFrame; split
  · exact withOut_keepsSound _ s
  · unfold runFrame; dsimp only
    exact (closePolls_keepsSound _ s).trans ((storeTake_keepsSound _).trans ((prepared_keepsSound _ _).trans
      ((sendFrame_keepsSound _ _ _ _).trans ((sendReturnIf_keepsSound _ _).trans
        ((frameEvents_keepsSound _ _).trans (sendReturnIf_keepsSound _ _))))))

end Sys2Proof.Machine

namespace Sys2Proof.Machine

set_option Elab.async false

/-! ## Messages -/

theorem judged_keepsSound {cs : List (Bool × Result)} {s t : State} (h : firstFailure cs = none → KeepsSound s t) :
    KeepsSound s (judged cs s t).state := by
  unfold judged; split
  · exact .rfl s
  next hpass => exact h hpass

theorem answered_keepsSound (cs : List (Bool × Result)) (s : State) (d : List Word) :
    KeepsSound s (answered cs s d).state := by rw [answered_state]; exact .rfl s

/-- A check of a list that passes whole holds. -/
theorem check_passes {cs : List (Bool × Result)} (h : firstFailure cs = none) {b : Bool} {r : Result}
    (hmem : (b, r) ∈ cs) : b = false := (firstFailure_none_iff cs).mp h (b, r) hmem

theorem withProg_keepsSound {x : Programme} {s : State} (h : ProgrammeSound s → ProgrammeSound (s.withProg x)) :
    KeepsSound s (s.withProg x) :=
  { prog := h }

/-- Set Lane keeps the two limits of the lane table (R51, check 3). -/
theorem judgeSetLane_keepsSound (strict : Bool) (p : List Word) (s : State) :
    KeepsSound s (judgeSetLane strict p s).state := by
  refine judged_keepsSound fun hpass => withProg_keepsSound fun h => ?_
  have hlimits := check_passes hpass (b := !laneLimits (writeLane p s.prog.lanes)) (r := .full) (by simp)
  simp only [laneLimits, Bool.not_eq_false', Bool.and_eq_true, decide_eq_true_eq] at hlimits
  exact ⟨hlimits.1, hlimits.2, h.2.2⟩

theorem rehome_fade (tags : List Nat) (r : SeatRecord) : (rehome tags r).fade = r.fade := by
  unfold rehome; split
  · split <;> rfl
  · rfl

/-- Set Carousel keeps the carousel's length, order and range (R53). -/
theorem judgeSetCarousel_keepsSound (strict : Bool) (p : List Word) (s : State) :
    KeepsSound s (judgeSetCarousel strict p s).state := by
  refine judged_keepsSound fun hpass => KeepsSound.trans (b := s.withProg { s.prog with carousel := carouselTags p })
    (withProg_keepsSound fun h => ?_) (withSeats_keepsSound fun h i => ?_)
  · have hcount := check_passes hpass (b := decide (12 < argN p 1)) (r := .range) (by simp [countChecks])
    have hrange := check_passes hpass (b := (carouselTags p).any (outside 1 63)) (r := .range) (by simp)
    have hnodup := check_passes hpass (b := !decide (carouselTags p).Nodup) (r := .duplicate) (by simp)
    rw [decide_eq_false_iff_not] at hcount
    rw [List.any_eq_false] at hrange
    refine ⟨h.1, h.2.1, ?_, by simpa using hnodup, fun t ht => ?_⟩
    · have hlen : (carouselTags p).length ≤ argN p 1 := by simp [carouselTags]
      exact hlen.trans (Nat.le_of_not_lt hcount)
    · have := hrange t ht
      rw [outside_iff] at this
      omega
  · rw [mapTable_get, rehome_fade]; exact h.2.2 i

theorem writeSeats_fade (first last : Nat) (f : SeatWrite) (t : SeatTable) (i : Fin 65) :
    (writeSeats first last f t).records[i].fade = t.records[i].fade := by
  simp only [writeSeats, Fin.getElem_fin, Vector.getElem_ofFn]
  split <;> rfl

theorem writeSeats_keepsSound (first last : Nat) (f : SeatWrite) (s : State) :
    KeepsSound s (s.withSeats (writeSeats first last f s.seats)) :=
  withSeats_keepsSound fun h i => (writeSeats_fade first last f s.seats i).trans_le (h.2.2 i)

/-! ### Write Stops (R121, R122) -/

theorem increasing_iff (l : List Nat) : increasing l = true ↔ l.IsChain (· < ·) := by
  induction l with
  | nil => simp [increasing]
  | cons a l ih =>
    cases l with
    | nil => simp [increasing]
    | cons b l => simp [increasing, ih]

/-- A run in order between its neighbours keeps a table that is in order in order (R120, R121 check 3). -/
theorem placeStops_increasing {first : Nat} {written stops : List Stop} (hne : written ≠ [])
    (hrun : increasing (runMetres first written stops) = true) (h : (stops.map (·.metre)).Pairwise (· < ·)) :
    ((placeStops first written stops).map (·.metre)).Pairwise (· < ·) := by
  rw [← List.isChain_iff_pairwise] at h ⊢
  rw [increasing_iff] at hrun
  have hfront : ((stops.take first).map (·.metre)).IsChain (· < ·) := by rw [List.map_take]; exact h.take _
  have hback : ((stops.drop (first + written.length)).map (·.metre)).IsChain (· < ·) := by
    rw [List.map_drop]; exact h.drop _
  obtain ⟨w, ws, rfl⟩ := List.exists_cons_of_ne_nil hne
  unfold runMetres at hrun
  unfold placeStops
  simp only [List.map_append, List.isChain_append] at hrun ⊢
  obtain ⟨⟨-, hwritten, hbefore⟩, -, hafter⟩ := hrun
  refine ⟨⟨hfront, hwritten, ?_⟩, hback, ?_⟩
  · intro x hx y hy
    refine hbefore x ?_ y hy
    rw [List.getLast?_map, Option.mem_map] at hx
    obtain ⟨st, hst, rfl⟩ := hx
    rw [Option.mem_def.mp hst]; rfl
  · intro x hx y hy
    refine hafter x ?_ y ?_
    · rw [List.getLast?_append_of_ne_nil _ (by simp)] at hx ⊢
      exact hx
    · rw [List.head?_map, Option.mem_map] at hy
      obtain ⟨st, hst, rfl⟩ := hy
      rw [Option.mem_def.mp hst]; rfl

theorem length_placeStops_le {first : Nat} {written stops : List Stop} (hstops : stops.length ≤ 120)
    (hfits : first + written.length ≤ 120) : (placeStops first written stops).length ≤ 120 := by
  simp only [placeStops, List.length_append, List.length_take, List.length_drop]
  omega

theorem placeStops_nil (first : Nat) (stops : List Stop) : placeStops first [] stops = stops := by
  simp [placeStops]

theorem length_writtenStops (p : List Word) : (writtenStops p).length = argN p 2 := by simp [writtenStops]

theorem judgeWriteStops_keepsSound (strict : Bool) (p : List Word) (s : State) :
    KeepsSound s (judgeWriteStops strict p s).state := by
  refine judged_keepsSound fun hpass => { stops := fun h => ?_ }
  have hrange := check_passes hpass (b := outside 0 119 (argN p 1) || decide (s.route.stops.length < argN p 1)
    || decide (Config.stopDepth < argN p 1 + argN p 2) || (writtenStops p).any (stopRangeBad s.route.length))
    (r := .range) (by simp)
  have horder := check_passes hpass
    (b := argN p 2 != 0 && !increasing (runMetres (argN p 1) (writtenStops p) s.route.stops)) (r := .order) (by simp)
  have hnumbers := check_passes hpass
    (b := argN p 2 != 0 && !decide ((placeStops (argN p 1) (writtenStops p) s.route.stops).map (·.number)).Nodup)
    (r := .duplicate) (by simp)
  have hlen := length_writtenStops p
  by_cases hcount : argN p 2 = 0
  · have hnone : writtenStops p = [] := List.length_eq_zero_iff.mp (hlen.trans hcount)
    change StopsSound (setRoute { s.route with stops := placeStops (argN p 1) (writtenStops p) s.route.stops } s)
    rw [hnone, placeStops_nil]
    exact h
  · simp only [Bool.or_eq_false_iff, decide_eq_false_iff_not] at hrange
    obtain ⟨⟨-, hend⟩, -⟩ := hrange
    have hfits : argN p 1 + (writtenStops p).length ≤ 120 := by rw [hlen]; exact Nat.le_of_not_lt hend
    have hdistinct : ((placeStops (argN p 1) (writtenStops p) s.route.stops).map (·.number)).Nodup := by
      simpa [hcount] using hnumbers
    have hne : writtenStops p ≠ [] := by
      rw [← List.length_pos_iff]; omega
    refine ⟨length_placeStops_le h.1 hfits, placeStops_increasing hne ?_ h.2.1, hdistinct⟩
    simpa [hcount] using horder

theorem judgeSetRoute_keepsSound (strict : Bool) (p : List Word) (s : State) :
    KeepsSound s (judgeSetRoute strict p s).state :=
  judged_keepsSound fun _ => { stops := fun _ => ⟨Nat.zero_le 120, List.Pairwise.nil, List.nodup_nil⟩ }

/-! ### Restart -/

theorem restartRoute_places (r : Route) : stopPlaces (restartRoute r) = stopPlaces r := by
  simp [stopPlaces, restartRoute, Function.comp_def]

theorem restartState_keepsSound (s : State) : KeepsSound s (restartState s) where
  reports := fun _ => Nat.zero_le 16
  queue := fun _ => ⟨Nat.zero_le 6, Nat.zero_le 1, List.nodup_nil, List.Pairwise.nil⟩
  stops := fun h => h.of_places (restartRoute_places s.route)
  gains := fun _ => by
    refine ⟨Nat.le_refl 32767, fun i => ?_, fun i => ?_⟩
    · simp only [restartState, restartMixer, Fin.getElem_fin, Vector.getElem_ofFn]
      exact volumeGain_le _
    · simp only [restartState, mapTable_get]
      exact Nat.le_refl 32767

/-! ### Every kind -/

theorem judgeClipStart_keepsSound (strict : Bool) (p : List Word) (s : State) :
    KeepsSound s (judgeClipStart strict p s).state := by
  have hstale : ∀ n, KeepsSound s (refuse .state (offerReport (abortReport n .stale) s)).state := fun n =>
    offerReport_keepsSound _ s
  unfold judgeClipStart; split
  · exact .rfl s
  · unfold clipStartOutcome; split
    · exact hstale _
    · split
      · split
        · split
          · exact .rfl s
          · dsimp only; split
            · exact (updateActive_keepsSound s).trans (startPlaying_keepsSound _)
            · exact updateActive_keepsSound s
        · exact .rfl s
        · exact hstale _
        · exact hstale _
      · exact hstale _

theorem judgeReadStatus_keepsSound (strict : Bool) (p : List Word) (s : State) :
    KeepsSound s (judgeReadStatus strict p s).state := by
  unfold judgeReadStatus; split
  · exact .rfl s
  · dsimp only; split
    · exact { }
    · exact .rfl s

theorem cancelAction_keepsSound (p : List Word) (s : State) : KeepsSound s (cancelAction p s) := by
  have hactive : ∀ q, KeepsSound s (cancelActive q s) := by
    intro q; unfold cancelActive; split
    · exact abortActive_keepsSound _ s
    · exact .rfl s
  unfold cancelAction; split
  · exact hactive _
  · exact (hactive _).trans (removeWaiting_keepsSound _ _)
  · exact (hactive _).trans (removeWaiting_keepsSound _ _)

theorem judgePosition_keepsSound (strict : Bool) (p : List Word) (s : State) :
    KeepsSound s (judgePosition strict p s).state := by
  refine judged_keepsSound fun _ => ?_
  split
  · exact takeFix_keepsSound _ _ s
  · exact setRoute_sameStops

theorem judgeKind_keepsSound (k : MsgKind) (strict : Bool) (p : List Word) (s : State) :
    KeepsSound s (judgeKind k strict p s).state := by
  cases k <;> dsimp only [judgeKind]
  case setLane => exact judgeSetLane_keepsSound strict p s
  case setCarousel => exact judgeSetCarousel_keepsSound strict p s
  case setSeat | setSeatRange => exact judged_keepsSound fun _ => writeSeats_keepsSound _ _ _ s
  case setSeatLine => exact judged_keepsSound fun _ => withLines_keepsSound _ s
  case setAudio => exact judged_keepsSound fun _ => setAudio_keepsSound _ s
  case setRoute => exact judgeSetRoute_keepsSound strict p s
  case writeStops => exact judgeWriteStops_keepsSound strict p s
  case position => exact judgePosition_keepsSound strict p s
  case tour => exact judged_keepsSound fun _ => tourAction_keepsSound _ s
  case announce => exact judged_keepsSound fun _ => offer_keepsSound (newEntry_waiting _ _ _ _ _ _) s
  case clipStart => exact judgeClipStart_keepsSound strict p s
  case clipEnd => exact judged_keepsSound fun _ => toTrailing_keepsSound _ s
  case cancel => exact judged_keepsSound fun _ => cancelAction_keepsSound p s
  case setChime | setAnnounce => exact judged_keepsSound fun _ => withAnn_sameQueue
  case setScene | setPattern | applyScene | setZones => exact judged_keepsSound fun _ => withLights_keepsSound _ s
  case setCue | setAmbient => exact judged_keepsSound fun _ => withCues_keepsSound _ s
  case marker => exact judged_keepsSound fun _ => raise_keepsSound _ s
  case setNotices | clearNotices => exact judged_keepsSound fun _ => withNotices_keepsSound _ s
  case setProfile => exact judged_keepsSound fun _ => withPins_keepsSound _ s
  case restart => exact judged_keepsSound fun _ => restartState_keepsSound s
  case readStatus => exact judgeReadStatus_keepsSound strict p s
  case readLanes | readSeat | readLine | readStops | readQueue | readZones | readCues | readNotices =>
    exact answered_keepsSound _ s _

theorem judgeMessage_keepsSound (h : MsgHead) (c : BitVec 6) (p : List Word) (s : State) :
    KeepsSound s (judgeMessage h c p s).state := by
  unfold judgeMessage; dsimp only; split
  · exact .rfl s
  · split
    · exact .rfl s
    · split
      · exact .rfl s
      · exact judgeKind_keepsSound _ _ p s

theorem completeMessage_keepsSound (h : MsgHead) (c : BitVec 6) (p : List Word) (s : State) :
    KeepsSound s (completeMessage h c p s) := by
  unfold completeMessage; dsimp only
  have hjudged : KeepsSound s (judgeMessage h c p (decoderIdle s)).state :=
    (withDecoder_keepsSound _ s).trans (judgeMessage_keepsSound h c p _)
  split
  · exact (hjudged.trans (reply_keepsSound _ _ _ _ _)).trans (tryCue_keepsSound _)
  · exact hjudged.trans (reply_keepsSound _ _ _ _ _)

theorem decoderDiscard_keepsSound (s : State) : KeepsSound s (decoderDiscard s) := withDecoder_keepsSound _ s

theorem receive_keepsSound (h : MsgHead) (c : BitVec 6) (p : List Word) (s : State) :
    KeepsSound s (receive h c p s) := by
  unfold receive; split
  · exact decoderDiscard_keepsSound s
  · split
    · exact (reply_keepsSound _ _ _ _ s).trans (decoderDiscard_keepsSound _)
    · exact completeMessage_keepsSound h c p s

/-! ## Trunk words -/

theorem garble_keepsSound (s : State) : KeepsSound s (garble s) :=
  (withDecoder_keepsSound _ s).trans (setCause_keepsSound _ _)

theorem dataWord_keepsSound (w : Word) (s : State) : KeepsSound s (dataWord w s) := by
  unfold dataWord; split
  · split <;> exact withDecoder_keepsSound _ s
  · split
    · exact withDecoder_keepsSound _ s
    · exact (reply_keepsSound _ _ _ _ s).trans (decoderDiscard_keepsSound _)

theorem outsidePair_keepsSound (w : Word) (s : State) : KeepsSound s (outsidePair w s) := by
  unfold outsidePair; split
  · exact withDecoder_keepsSound _ s
  · split
    · exact withDecoder_keepsSound _ s
    · exact (withDecoder_keepsSound _ s).trans (garble_keepsSound _)

theorem outsideWord_keepsSound (w : Word) (s : State) : KeepsSound s (outsideWord w s) := by
  unfold outsideWord; split
  · exact .rfl s
  · split
    · exact withDecoder_keepsSound _ s
    · exact garble_keepsSound s

theorem messagePair_keepsSound (w : Word) (s : State) : KeepsSound s (messagePair w s) := by
  have hframing : ∀ h, KeepsSound s (refuseFraming h s) := fun h => reply_keepsSound _ _ _ _ s
  unfold messagePair; split
  · exact dataWord_keepsSound w s
  · split
    · split
      · exact withDecoder_keepsSound _ s
      · split
        · exact (garble_keepsSound s).trans (withDecoder_keepsSound _ _)
        · split
          · exact withDecoder_keepsSound _ s
          · exact (garble_keepsSound s).trans (decoderDiscard_keepsSound _)
    · split
      · exact (hframing _).trans (withDecoder_keepsSound _ _)
      · split
        · exact completeMessage_keepsSound _ _ _ s
        · split
          · exact withDecoder_keepsSound _ s
          · exact (hframing _).trans (decoderDiscard_keepsSound _)

theorem messageWord_keepsSound (w : Word) (s : State) : KeepsSound s (messageWord w s) := by
  unfold messageWord; split
  · exact .rfl s
  · split
    · exact withDecoder_keepsSound _ s
    · exact dataWord_keepsSound w s

theorem discardWord_keepsSound (w : Word) (s : State) : KeepsSound s (discardWord w s) := by
  unfold discardWord; split
  · split <;> exact withDecoder_keepsSound _ s
  · split
    · exact withDecoder_keepsSound _ s
    · exact .rfl s

theorem controlWord_keepsSound (w : Word) (s : State) : KeepsSound s (controlWord w s) := by
  unfold controlWord; split
  · split
    · exact outsidePair_keepsSound w s
    · exact outsideWord_keepsSound w s
  · split
    · exact messagePair_keepsSound w s
    · exact messageWord_keepsSound w s
  · exact discardWord_keepsSound w s

/-- A frame joins the store while health is OK and it drops one where it is full (R13). -/
theorem storeJoin_keepsSound (f : LaneFrame) (s : State) : KeepsSound s (storeJoin f s) := by
  unfold storeJoin; split
  · exact .rfl s
  next hok =>
    have hjoin : ∀ {fs}, (StoreSound s → fs.length ≤ 4) → KeepsSound s (s.withStore { s.store with frames := fs }) :=
      fun hlen => { store := fun h => ⟨hlen h, fun hlost => by cases hok.symm.trans hlost⟩ }
    split
    next hroom =>
      refine hjoin fun _ => ?_
      rw [List.length_append]; exact hroom
    next hfull =>
      refine KeepsSound.trans (hjoin fun h => ?_) ((withCounters_keepsSound _ _).trans (setCause_keepsSound _ _))
      have hlen := h.1
      simp only [List.length_append, List.length_tail, List.length_singleton]
      omega

theorem countGap_keepsSound (gap : Bool) (s : State) : KeepsSound s (countGap gap s) := by
  unfold countGap; split
  · exact withCounters_keepsSound _ s
  · exact .rfl s

theorem takeGood_keepsSound (words : List Word) (s : State) : KeepsSound s (takeGood words s) := by
  unfold takeGood; dsimp only
  exact (withTrunk_keepsSound _ s).trans (KeepsSound.trans (withDog_keepsSound (by exact id))
    ((storeJoin_keepsSound _ _).trans ((controlWord_keepsSound _ _).trans (countGap_keepsSound _ _))))

theorem takeBad_keepsSound (s : State) : KeepsSound s (takeBad s) := by
  unfold takeBad lostWord; dsimp only
  exact (withTrunk_keepsSound _ s).trans ((withCounters_keepsSound _ _).trans ((setCause_keepsSound _ _).trans
    ((withDecoder_keepsSound _ _).trans (storeJoin_keepsSound _ _))))

theorem trunkReceive_keepsSound (w : Word) (s : State) : KeepsSound s (trunkReceive w s) := by
  unfold trunkReceive trunkEvent; dsimp only
  refine (withTrunk_keepsSound { s.trunk with rx := (lockStep 16 s.trunk.rx w).1 } s).trans ?_
  split
  · exact .rfl _
  · exact .rfl _
  · split
    · exact takeGood_keepsSound _ _
    · exact takeBad_keepsSound _

/-! ## Every command -/

theorem running_keepsSound {f : State → State} (hf : ∀ s, KeepsSound s (f s)) (s : State) :
    KeepsSound s (running f s) := by
  unfold running; split
  · exact .rfl s
  · exact hf s

/-- The power-on values meet every invariant that `KeepsSound` covers. -/
theorem powerOn_sound (pending : List Instr) (pins : Pins) (out : Outputs) :
    let t := State.powerOn pending pins out
    ReportsBounded t ∧ HoldBounded t ∧ StoreSound t ∧ QueueSound t ∧ ProgrammeSound t ∧ StopsSound t ∧ GainsSound t := by
  have hlanes : countKind .announce Programme.initial.lanes ≤ 4 ∧ countKind .bed Programme.initial.lanes ≤ 1 := by
    decide
  refine ⟨Nat.zero_le 16, Nat.zero_le 32, ⟨Nat.zero_le 4, fun _ => ⟨rfl, rfl⟩⟩,
    ⟨Nat.zero_le 6, Nat.zero_le 1, List.nodup_nil, List.Pairwise.nil⟩,
    ⟨hlanes.1, hlanes.2, Nat.zero_le 12, List.nodup_nil, fun _ h => nomatch h⟩,
    ⟨Nat.zero_le 120, List.Pairwise.nil, List.nodup_nil⟩, Nat.le_refl 32767, fun i => ?_, fun i => ?_⟩
  · simp [State.powerOn, Mixer.initial]
  · simp [State.powerOn, SeatTable.initial, SeatRecord.initial]

theorem powerOn_keepsSound (s : State) (pins : Pins) (out : Outputs) :
    KeepsSound s (State.powerOn s.pending pins out) := by
  obtain ⟨hreports, hhold, hstore, hqueue, hprog, hstops, hgains⟩ := powerOn_sound s.pending pins out
  exact ⟨fun _ => hreports, fun _ => hhold, fun _ => hstore, fun _ => hqueue, fun _ => hprog, fun _ => hstops,
    fun _ => hgains⟩

theorem Comes.keepsSound {c : Instr} {s t : State} (h : Comes c s t) : KeepsSound s t := by
  cases h with
  | nothing => exact .rfl s
  | poweredOn => exact powerOn_keepsSound s _ _
  | pinned => exact (withPins_keepsSound _ s).trans (withOut_keepsSound _ _)
  | trunkWord w => exact (withOut_keepsSound _ s).trans (running_keepsSound (trunkReceive_keepsSound w) _)
  | returnInWord w => exact (passWord_keepsSound w s).trans (running_keepsSound (returnReceive_keepsSound w) _)
  | tick b => exact running_keepsSound (localTick_keepsSound b) s
  | frame o => exact outputFrame_keepsSound o s
  | replyWord i w => exact running_keepsSound (takeReplyWord_keepsSound i w) s
  | light => exact running_keepsSound lightTick_keepsSound s
  | route => exact running_keepsSound routeTick_keepsSound s
  | cue => exact running_keepsSound tryCue_keepsSound s
  | ambient x => exact running_keepsSound (ambientSample_keepsSound _) s
  | message h code p => exact running_keepsSound (receive_keepsSound h code p) s

/-- Every step keeps each of these invariants. -/
theorem step_keepsSound {s t : State} (h : step s = .next t) : KeepsSound s t := by
  rcases step_comes h with rfl | ⟨c, rest, -, hcomes⟩
  · exact .rfl _
  · exact (withPending_keepsSound rest s).trans hcomes.keepsSound

/-- Settles O55. -/
theorem queuesOfTheReturnLinkStayBounded : Obligations.QueuesOfTheReturnLinkStayBounded :=
  fun _ _ h => ⟨(step_keepsSound h).reports, (step_keepsSound h).hold⟩

/-- Settles O56. -/
theorem storeStaysSound : Obligations.StoreStaysSound := fun _ _ hs h => (step_keepsSound h).store hs

/-- Settles O57. -/
theorem announcementQueueStaysSound : Obligations.AnnouncementQueueStaysSound :=
  fun _ _ hs h => (step_keepsSound h).queue hs

/-- Settles O59. -/
theorem gainsStayInRange : Obligations.GainsStayInRange := fun _ _ hs h => (step_keepsSound h).gains hs

/-! ## A disabled line -/

/-- A disabled line is at rest (R57, R71). -/
def LineAtRest (l : SeatLine) : Prop := l.enabled = false → l.pollPos = 0 ∧ l.poll = none

/-- Only an enabled line is polled, and only a polled one takes words (R57, R61, R71, R74). -/
theorem LineStep.keeps_rest {l l' : SeatLine} (h : LineStep l l') (hl : LineAtRest l) : LineAtRest l' := by
  cases h with
  | kept => exact hl
  | poweredOn => exact fun _ => ⟨rfl, rfl⟩
  | written enabled openT shortT debounce =>
    unfold writeLine; split
    · exact fun hoff => nomatch hoff
    · exact fun _ => ⟨rfl, rfl⟩
  | restarted => exact fun _ => ⟨rfl, rfl⟩
  | wordTaken w hpoll => exact fun hoff => nomatch hpoll.symm.trans (hl hoff).2
  | replied w hpoll => exact fun hoff => nomatch hpoll.symm.trans (hl hoff).2
  | framed =>
    have hclosed : (lineClosed l).enabled = l.enabled ∧ (lineClosed l).pollPos = l.pollPos ∧
        (lineClosed l).poll = none := by
      unfold lineClosed; split <;> exact ⟨rfl, rfl, rfl⟩
    unfold lineSent; split
    next hon => exact fun hoff => by simp [hon] at hoff
    · intro hoff
      exact ⟨hclosed.2.1.trans (hl (hclosed.1.symm.trans hoff)).1, hclosed.2.2⟩

/-- Settles O58: the lane table, the carousel and the stops by `step_keepsSound`, a disabled line by `LineStep`. -/
theorem tablesStaySound : Obligations.TablesStaySound :=
  fun _ _ h => ⟨(step_keepsSound h).prog, (step_keepsSound h).stops, fun hs i => (step_linesStep h i).keeps_rest (hs i)⟩

/-- Settles O60: the reset state is a power-on state, which meets what `KeepsSound` covers; its lines are enabled, with
runs 0. -/
theorem resetMeetsEveryInvariant : Obligations.ResetMeetsEveryInvariant := by
  obtain ⟨hreports, hhold, hstore, hqueue, hprog, hstops, hgains⟩ :=
    powerOn_sound [] (Pins.sampled ⟨Config.resetUnit, Config.resetProfHigh⟩ false) Outputs.initial
  have hline : ∀ i : Fin 4, State.reset.lines[i] = SeatLine.initial := fun i => by
    simp [State.reset, State.powerOn]
  refine ⟨hreports, hhold, hstore, hqueue, hprog, hstops, fun i => ?_, hgains, fun i => ?_⟩
  · rw [hline i]; exact fun _ => ⟨rfl, rfl⟩
  · rw [hline i]; exact cleared_inRange _ _ _ _

end Sys2Proof.Machine

/-! # Proofs: power-on, the reset pin and the frames of the events (O4 to O8) -/

namespace Sys2Proof.Machine

set_option Elab.async false

/-- Settles O5: the reset state is its blocks' initial values. -/
theorem resetHoldsPowerOnValues : Obligations.ResetHoldsPowerOnValues :=
  ⟨rfl, rfl, rfl, rfl, rfl, rfl, rfl, rfl, rfl, rfl, rfl, rfl, rfl, rfl, rfl, rfl, rfl, rfl, rfl, rfl, rfl, rfl⟩

/-- Settles O6: the four clauses are the branches of the commands of the pins. -/
theorem resetPinAndPowerOnSetTheOutputs : Obligations.ResetPinAndPowerOnSetTheOutputs := by
  refine ⟨fun straps s => ⟨fun hphase => ?stands, rfl, fun hphase => ?powering, rfl⟩, fun s => rfl⟩
  case stands => exact congrArg Host.Outcome.next (if_neg hphase)
  case powering => exact congrArg Host.Outcome.next (if_pos hphase)

theorem outputFrame_held {o : FrameOrder} {s : State} (h : s.pins.held = true) : outputFrame o s = sendPa 0 s := by
  simp [outputFrame, h]

/-- Settles O7: the two words that are passed on by `exec`'s own arms, every other command by what it comes to: while the
part is held no event acts, and an output frame sends 0 on the PA output. -/
theorem heldPartOnlyPassesWordsThrough : Obligations.HeldPartOnlyPassesWordsThrough := by
  intro c s hs
  refine ⟨?trunk, ?returnIn, fun hpower hassert hrelease htrunk hreturn => ?others⟩
  case trunk =>
    rintro w rfl
    exact congrArg Host.Outcome.next (running_held hs)
  case returnIn =>
    rintro w rfl hpass
    have hword : passWord w s = s.withOut { s.out with returnOut := [w] } := if_pos hpass
    change Host.Outcome.next (running (returnReceive w) (passWord w s)) = _
    rw [hword]
    exact congrArg Host.Outcome.next (running_held hs)
  case others =>
    have hpins : isPin c = false := by
      cases c
      case powerOn power => exact absurd rfl (hpower power)
      case resetAssert => exact absurd rfl hassert
      case resetRelease straps => exact absurd rfl (hrelease straps)
      all_goals rfl
    obtain ⟨t, hexec, hcomes⟩ := exec_comes c s
    rw [hexec]
    cases hcomes with
    | nothing => exact .inl rfl
    | poweredOn _ _ _ hc | pinned _ _ _ hc => rw [hpins] at hc; cases hc
    | trunkWord w => exact absurd rfl (htrunk w)
    | returnInWord w => exact absurd rfl (hreturn w)
    | frame o => exact .inr (congrArg Host.Outcome.next (outputFrame_held hs))
    | tick | replyWord | light | route | cue | ambient | message =>
      exact .inl (congrArg Host.Outcome.next (running_held hs))

/-- Settles O8. -/
theorem trunkOutRepeatsEveryWord : Obligations.TrunkOutRepeatsEveryWord := fun w s => ⟨_, rfl, trunkWord_out w s⟩

/-! ## What a message does to the pins -/

theorem TouchesRoute.pins {s t : State} (h : TouchesRoute s t) : t.pins = s.pins := by
  unfold TouchesRoute at h; rw [h]

/-- Of the pins at most the profile differs. -/
def PinsButProfile (s t : State) : Prop := t.pins = { s.pins with profile := t.pins.profile }

theorem PinsButProfile.of_eq {s t : State} (h : t.pins = s.pins) : PinsButProfile s t := by
  unfold PinsButProfile; rw [h]

theorem PinsButProfile.trans {a b c : State} (h1 : PinsButProfile a b) (h2 : PinsButProfile b c) :
    PinsButProfile a c := by
  unfold PinsButProfile at *; rw [h2, h1]

theorem judged_pins {cs : List (Bool × Result)} {s t : State} (h : PinsButProfile s t) :
    PinsButProfile s (judged cs s t).state := by
  unfold judged; split
  · exact .of_eq rfl
  · exact h

theorem judged_samePins {cs : List (Bool × Result)} {s t : State} (h : t.pins = s.pins) :
    PinsButProfile s (judged cs s t).state := judged_pins (.of_eq h)

theorem answered_pins (cs : List (Bool × Result)) (s : State) (d : List Word) :
    PinsButProfile s (answered cs s d).state := .of_eq (congrArg State.pins (answered_state cs s d))

theorem judgeClipStart_pins (strict : Bool) (p : List Word) (s : State) :
    (judgeClipStart strict p s).state.pins = s.pins := by
  have hstale : ∀ n, (refuse .state (offerReport (abortReport n .stale) s)).state.pins = s.pins := fun n =>
    (offerReport_frame _ s).route.pins
  unfold judgeClipStart; split
  · rfl
  · unfold clipStartOutcome; split
    · exact hstale _
    · split
      · split
        · split
          · rfl
          · dsimp only; split
            · exact (startPlaying_frame _).route.pins
            · rfl
        · rfl
        · exact hstale _
        · exact hstale _
      · exact hstale _

theorem judgeReadStatus_pins (strict : Bool) (p : List Word) (s : State) :
    (judgeReadStatus strict p s).state.pins = s.pins := by
  unfold judgeReadStatus; split
  · rfl
  · dsimp only; split <;> rfl

theorem judgePosition_pins (strict : Bool) (p : List Word) (s : State) :
    PinsButProfile s (judgePosition strict p s).state := by
  refine judged_samePins ?_
  split
  · exact (takeFix_frame _ _ s).pins
  · rfl

/-- Set Profile alone writes the profile, and no message another of the pins (R40). -/
theorem judgeKind_pins (k : MsgKind) (strict : Bool) (p : List Word) (s : State) :
    PinsButProfile s (judgeKind k strict p s).state := by
  cases k <;> dsimp only [judgeKind]
  case setProfile => exact judged_pins rfl
  case clipStart => exact .of_eq (judgeClipStart_pins strict p s)
  case readStatus => exact .of_eq (judgeReadStatus_pins strict p s)
  case position => exact judgePosition_pins strict p s
  case tour => exact judged_samePins (tourAction_frame _ s).pins
  case announce => exact judged_samePins (offer_frame _ s).route.pins
  case cancel => exact judged_samePins (cancelAction_frame p s).route.pins
  case marker => exact judged_samePins (raise_frame _ s).route.pins
  case readLanes | readSeat | readLine | readStops | readQueue | readZones | readCues | readNotices =>
    exact answered_pins _ s _
  case restart => exact judged_samePins rfl
  case clipEnd => exact judged_samePins (toTrailing_frame _ s).route.pins
  case setCarousel => exact judged_samePins (State.withSeats_pins (s.withProg _) _)
  case setLane => exact judged_samePins (State.withProg_pins s _)
  case setSeat | setSeatRange => exact judged_samePins (State.withSeats_pins s _)
  case setSeatLine => exact judged_samePins (State.withLines_pins s _)
  case setAudio => exact judged_samePins (State.withMixer_pins s _)
  case setRoute | writeStops => exact judged_samePins (State.withRoute_pins s _)
  case setChime | setAnnounce => exact judged_samePins (State.withAnn_pins s _)
  case setScene | setPattern | applyScene | setZones => exact judged_samePins (State.withLights_pins s _)
  case setCue | setAmbient => exact judged_samePins (State.withCues_pins s _)
  case setNotices | clearNotices => exact judged_samePins (State.withNotices_pins s _)

theorem judgeMessage_pins (h : MsgHead) (c : BitVec 6) (p : List Word) (s : State) :
    PinsButProfile s (judgeMessage h c p s).state := by
  unfold judgeMessage; dsimp only; split
  · exact .of_eq rfl
  · split
    · exact .of_eq rfl
    · split
      · exact .of_eq rfl
      · exact judgeKind_pins _ _ p s

theorem completeMessage_pins (h : MsgHead) (c : BitVec 6) (p : List Word) (s : State) :
    PinsButProfile s (completeMessage h c p s) := by
  have hjudged : PinsButProfile s (judgeMessage h c p (decoderIdle s)).state := judgeMessage_pins h c p (decoderIdle s)
  have hreply := hjudged.trans (.of_eq (reply_frame h c (judgeMessage h c p (decoderIdle s)).result
    (judgeMessage h c p (decoderIdle s)).data _).route.pins)
  unfold completeMessage; dsimp only; split
  · exact hreply.trans (.of_eq (tryCue_frame _).route.pins)
  · exact hreply

theorem receive_pins (h : MsgHead) (c : BitVec 6) (p : List Word) (s : State) :
    PinsButProfile s (receive h c p s) := by
  unfold receive; split
  · exact .of_eq rfl
  · split
    · exact .of_eq (reply_frame _ _ _ _ s).route.pins
    · exact completeMessage_pins h c p s

/-- What a message leaves as it is (O4). -/
def OutsideMessages (s t : State) : Prop :=
  t.now = s.now ∧ t.out = s.out ∧ t.trunk = s.trunk ∧ t.dog = s.dog ∧ t.store = s.store ∧ t.meter = s.meter ∧
    t.ret = s.ret ∧ t.tx = s.tx ∧ t.pins = { s.pins with profile := t.pins.profile }

theorem OutsideMessages.of_frame {s t : State} (h : TouchesMessage s t) (hpins : PinsButProfile s t) :
    OutsideMessages s t := by
  refine ⟨?_, ?_, ?_, ?_, ?_, ?_, ?_, ?_, hpins⟩ <;> (unfold TouchesMessage at h; rw [h])

theorem running_receive_outside (h : MsgHead) (code : BitVec 6) (p : List Word) (s : State) :
    OutsideMessages s (running (receive h code p) s) := by
  unfold running; split
  · exact .of_frame (.rfl s) (.of_eq rfl)
  · exact .of_frame (receive_frame h code p s) (receive_pins h code p s)

theorem isMessage_of_isPin {c : Instr} (h : isPin c = true) : isMessage c = false := by
  cases c
  case powerOn | resetAssert | resetRelease => rfl
  all_goals cases h

theorem message_outside {c : Instr} (hc : isMessage c = true) (s : State) :
    ∃ t, exec c s = .next t ∧ OutsideMessages s t := by
  obtain ⟨t, hexec, hcomes⟩ := exec_comes c s
  refine ⟨t, hexec, ?_⟩
  cases hcomes with
  | nothing => exact .of_frame (.rfl s) (.of_eq rfl)
  | message h code p => exact running_receive_outside h code p s
  | poweredOn _ _ _ hpin | pinned _ _ _ hpin => rw [isMessage_of_isPin hpin] at hc; cases hc
  | trunkWord | returnInWord => cases hc
  | tick _ _ hno | frame _ _ hno | replyWord _ _ _ hno | light _ hno | route _ hno | cue _ hno | ambient _ _ hno =>
    rw [hc] at hno; cases hno

/-! ## What the events leave as it is -/

/-- What holds of a state and of an event's answer holds where the part may be held (R193). -/
theorem running_cases {P : State → Prop} {f : State → State} {s : State} (h0 : P s) (h1 : P (f s)) :
    P (running f s) := by
  unfold running; split
  · exact h0
  · exact h1

theorem returnInWord_frame (w : Word) (s : State) :
    returnInWord w s = { s with
      ret := (returnInWord w s).ret, notices := (returnInWord w s).notices, out := (returnInWord w s).out } ∧
      (returnInWord w s).out.trunkOut = s.out.trunkOut := by
  have hpass : passWord w s = s.withOut (passWord w s).out ∧ (passWord w s).out.trunkOut = s.out.trunkOut := by
    unfold passWord; split <;> exact ⟨rfl, rfl⟩
  unfold returnInWord
  refine running_cases (P := fun t => t = { s with ret := t.ret, notices := t.notices, out := t.out } ∧
    t.out.trunkOut = s.out.trunkOut) ?_ ?_
  · rw [hpass.1]; exact ⟨rfl, hpass.2⟩
  · rw [returnReceive_frame, hpass.1]; exact ⟨rfl, hpass.2⟩

/-- Settles O4: each event by its frame in Sys2Proof/Laws/, the messages by `message_outside`. -/
theorem eachStepKeepsToItsBlocks : Obligations.EachStepKeepsToItsBlocks := by
  intro s
  refine ⟨fun c hc => message_outside hc s, fun o => ⟨_, rfl, ?frame⟩, fun i w => ⟨_, rfl, ?reply⟩,
    fun w => ⟨_, rfl, returnInWord_frame w s⟩, ⟨_, rfl, ?route⟩, ⟨_, rfl, ?cue⟩, fun x => ⟨_, rfl, ?ambient⟩⟩
  case frame =>
    have h := outputFrame_frame o s
    unfold TouchesFrame at h
    refine ⟨?_, ?_, ?_, ?_, ?_, ?_, ?_⟩ <;> rw [h]
  case reply => exact running_cases (P := fun t => t = { s with
    lines := t.lines, seats := t.seats, reports := t.reports, notices := t.notices }) rfl (takeReplyWord_frame i w s)
  case route => exact running_cases (P := TouchesRoute s) (.rfl s) (routeTick_frame s)
  case cue => exact running_cases (P := TouchesEffects s) (.rfl s) (tryCue_frame s)
  case ambient =>
    refine running_cases (P := fun t => t = { s with
      cues := t.cues, lights := t.lights, mixer := t.mixer, seats := t.seats, ann := t.ann, reports := t.reports
      notices := t.notices }) rfl ?_
    rw [ambientSample_frame]

end Sys2Proof.Machine

/-! # Proofs: the trunk receiver (O9 to O11) -/

namespace Sys2Proof.Machine

set_option Elab.async false

/-! ## The frame lock, row by row (R2 to R4, R34) -/

section
variable {n : Nat} {l : FrameLock} {w : Word}

theorem lockStep_verify_within (h : l.lock = .verify) (hpos : l.pos + 1 < n) :
    lockStep n l w = ({ l with pos := l.pos + 1 }, .quiet) := by simp [lockStep, h, hpos]

theorem lockStep_verify_sync (h : l.lock = .verify) (hpos : ¬ l.pos + 1 < n) (hw : w = syncWord) :
    lockStep n l w = (⟨.locked, 0, 0, [w]⟩, .quiet) := by simp [lockStep, h, hpos, hw]

theorem lockStep_verify_other (h : l.lock = .verify) (hpos : ¬ l.pos + 1 < n) (hw : w ≠ syncWord) :
    lockStep n l w = (FrameLock.initial, .hunting) := by simp [lockStep, h, hpos, hw]

theorem lockStep_counted_within (h : l.lock = .locked ∨ l.lock = .flywheel) (hpos : l.pos + 2 < n) :
    lockStep n l w = ({ l with pos := l.pos + 1, words := l.words ++ [w] }, .quiet) := by
  have hlt : l.pos + 1 < n := by omega
  rcases h with h | h <;> simp [lockStep, h, hlt, hpos.ne]

theorem lockStep_counted_end (h : l.lock = .locked ∨ l.lock = .flywheel) (hpos : l.pos + 2 = n) :
    lockStep n l w =
      ({ l with pos := l.pos + 1, words := l.words ++ [w] }, .frame (l.words ++ [w]) (l.lock == .locked)) := by
  have hlt : l.pos + 1 < n := by omega
  rcases h with h | h <;> simp [lockStep, h, hlt, hpos]

theorem lockStep_counted_sync (h : l.lock = .locked ∨ l.lock = .flywheel) (hpos : ¬ l.pos + 1 < n) (hw : w = syncWord) :
    lockStep n l w = (⟨.locked, 0, 0, [w]⟩, .quiet) := by
  rcases h with h | h <;> simp [lockStep, h, hpos, hw]

theorem lockStep_locked_other (h : l.lock = .locked) (hpos : ¬ l.pos + 1 < n) (hw : w ≠ syncWord) :
    lockStep n l w = (⟨.flywheel, 0, 1, [w]⟩, .quiet) := by simp [lockStep, h, hpos, hw]

theorem lockStep_flywheel_other (h : l.lock = .flywheel) (hpos : ¬ l.pos + 1 < n) (hw : w ≠ syncWord)
    (hmiss : l.missRun < 2) : lockStep n l w = (⟨.flywheel, 0, l.missRun + 1, [w]⟩, .quiet) := by
  simp [lockStep, h, hpos, hw, hmiss]

theorem lockStep_flywheel_lost (h : l.lock = .flywheel) (hpos : ¬ l.pos + 1 < n) (hw : w ≠ syncWord)
    (hmiss : ¬ l.missRun < 2) : lockStep n l w = (FrameLock.initial, .hunting) := by
  simp [lockStep, h, hpos, hw, hmiss]

end

/-- A trunk word while the part runs: it is repeated, and the lock and its event follow (R2, R17). -/
theorem exec_trunkWord {w : Word} {s : State} (hs : s.pins.held = false) {l : FrameLock} {e : LockEvent}
    (h : lockStep 16 s.trunk.rx w = (l, e)) :
    exec (.trunkWord w) s = .next (trunkEvent e { s with
      trunk := { s.trunk with rx := l }, out := { s.out with trunkOut := some w } }) := by
  change Host.Outcome.next (running (trunkReceive w) (repeatWord w s)) = _
  rw [running_free (s := repeatWord w s) hs]
  change Host.Outcome.next (trunkEvent (lockStep 16 s.trunk.rx w).2
    ((repeatWord w s).withTrunk { s.trunk with rx := (lockStep 16 s.trunk.rx w).1 })) = _
  rw [h]; rfl

/-- A trunk word that ends no counted frame moves the lock alone (R2 to R4). -/
theorem trunkWord_moves {w : Word} {s : State} (hs : s.pins.held = false) {l : FrameLock} {e : LockEvent}
    (h : lockStep 16 s.trunk.rx w = (l, e)) (he : e = .quiet ∨ e = .hunting) :
    exec (.trunkWord w) s =
      .next { s with trunk := { s.trunk with rx := l }, out := { s.out with trunkOut := some w } } := by
  rw [exec_trunkWord hs h]
  rcases he with rfl | rfl <;> rfl

/-- Settles O9: one row of `lockStep` for each clause. -/
theorem lockFollowsTheSyncWords : Obligations.LockFollowsTheSyncWords := by
  intro w s hs
  refine ⟨fun h hw => ?_, fun h hw => ?_, fun h hpos => ?_, fun h hpos hw => ?_, fun h hpos hw => ?_,
    fun h hpos => ?_, fun hpos => ?_⟩
  · exact trunkWord_moves hs (lockStep_hunt_other h hw) (.inl rfl)
  · exact trunkWord_moves hs (by rw [hw]; exact lockStep_hunt_sync h) (.inl rfl)
  · exact trunkWord_moves hs (lockStep_verify_within h (by omega)) (.inl rfl)
  · exact trunkWord_moves hs (lockStep_verify_sync h (by omega) hw) (.inl rfl)
  · exact trunkWord_moves hs (lockStep_verify_other h (by omega) hw) (.inr rfl)
  · exact trunkWord_moves hs (lockStep_counted_within h (by omega)) (.inl rfl)
  · have hlast : ¬ s.trunk.rx.pos + 1 < 16 := by omega
    refine ⟨fun h hw => ?_, fun h hw => ?_, fun h hw => ?_, fun h hw hmiss => ?_, fun h hw hmiss => ?_⟩
    · exact trunkWord_moves hs (lockStep_counted_sync (.inl h) hlast hw) (.inl rfl)
    · exact trunkWord_moves hs (lockStep_locked_other h hlast hw) (.inl rfl)
    · exact trunkWord_moves hs (lockStep_counted_sync (.inr h) hlast hw) (.inl rfl)
    · have hrow := lockStep_flywheel_other h hlast hw (by omega)
      rw [hmiss] at hrow
      exact trunkWord_moves hs hrow (.inl rfl)
    · exact trunkWord_moves hs (lockStep_flywheel_lost h hlast hw (by omega)) (.inr rfl)

/-! ## The store's input (R13) -/

/-- What a judged frame does to the store, the drop slips and the notices. -/
theorem storeJoin_eq (f : LaneFrame) (s : State) :
    storeJoin f s = { s with
      store := { s.store with frames :=
        if s.dog.health = .lost then s.store.frames
        else if s.store.frames.length < 4 then s.store.frames ++ [f]
        else s.store.frames.tail ++ [f] }
      counters := { s.counters with
        dropSlips := if s.dog.health = .ok ∧ 4 ≤ s.store.frames.length then satInc 65535 s.counters.dropSlips
          else s.counters.dropSlips }
      notices := { s.notices with
        causes := if s.dog.health = .ok ∧ 4 ≤ s.store.frames.length then s.notices.causes ||| 0x008#12
          else s.notices.causes } } := by
  unfold storeJoin
  split
  next h => simp [h]
  next h =>
    by_cases hroom : s.store.frames.length < 4
    · have hfull : ¬ 4 ≤ s.store.frames.length := Nat.not_le.mpr hroom
      simp [h, hroom, hfull, Config.storeDepth, State.withStore]
    · have hfull : 4 ≤ s.store.frames.length := Nat.le_of_not_lt hroom
      simp [h, hroom, hfull, Config.storeDepth, State.withStore, State.withCounters, setCause, State.withNotices,
        causeBit, BitVec.twoPow]

/-- FILL that no ESC precedes passes every state of the decoder (R22 to R24). -/
theorem controlWord_fill {s : State} (h : s.decoder.esc = false) : controlWord 0 s = s := by
  unfold controlWord
  split
  · rw [if_neg (by simp [h])]; rfl
  · rw [if_neg (by simp [h])]; rfl
  · unfold discardWord
    rw [if_neg (by simp [h])]; rfl

/-! ## A counted frame at its last word -/

/-- The state at the judging of a counted frame: its last word is repeated, and the lock has moved. -/
def frameEnded (w : Word) (s : State) : State := { s with
  trunk := { s.trunk with rx := { s.trunk.rx with pos := s.trunk.rx.pos + 1, words := s.trunk.rx.words ++ [w] } }
  out := { s.out with trunkOut := some w } }

theorem trunkWord_judges {w : Word} {s : State} (hs : s.pins.held = false)
    (h : s.trunk.rx.lock = .locked ∨ s.trunk.rx.lock = .flywheel) (hpos : s.trunk.rx.pos = 14) :
    exec (.trunkWord w) s = .next
      (if goodFrame (s.trunk.rx.words ++ [w]) (s.trunk.rx.lock == .locked)
        then takeGood (s.trunk.rx.words ++ [w]) (frameEnded w s) else takeBad (frameEnded w s)) :=
  exec_trunkWord hs (lockStep_counted_end h (by omega))

/-- The lost-word signal and the notice of a bad frame, and the concealed frame's joining (R5, R7, R8, R13, R25). -/
theorem takeBad_eq (s : State) :
    takeBad s = { s with
      trunk := { s.trunk with badRun := satInc 255 s.trunk.badRun }
      counters := { s.counters with
        badFrames := satInc 65535 s.counters.badFrames
        dropSlips := if s.dog.health = .ok ∧ 4 ≤ s.store.frames.length then satInc 65535 s.counters.dropSlips
          else s.counters.dropSlips }
      notices := { s.notices with
        causes := if s.dog.health = .ok ∧ 4 ≤ s.store.frames.length then s.notices.causes ||| 0x00C#12
          else s.notices.causes ||| 0x004#12 }
      decoder := { s.decoder with
        esc := false, wordLost := s.decoder.wordLost || decide (s.decoder.state = .inMessage) }
      store := { s.store with frames :=
        if s.dog.health = .lost then s.store.frames
        else if s.store.frames.length < 4 then s.store.frames ++ [concealed s.trunk]
        else s.store.frames.tail ++ [concealed s.trunk] } } := by
  have hboth (x : BitVec 12) : x ||| 0x004#12 ||| 0x008#12 = x ||| 0x00C#12 := by rw [BitVec.or_assoc]; rfl
  have hbit : BitVec.twoPow 12 (causeBit .badFrames) = 0x004#12 := rfl
  rw [takeBad, storeJoin_eq]
  simp [lostWord, setCause, hbit, hboth, State.withDecoder, State.withNotices, State.withCounters, State.withTrunk,
    beq_eq_decide]

/-- Settles O11. -/
theorem badFrameIsConcealed : Obligations.BadFrameIsConcealed := by
  intro w s hs hpos hbad
  have hcounted : s.trunk.rx.lock = .locked ∨ s.trunk.rx.lock = .flywheel := hbad.symm.imp_left And.left
  have hnot : goodFrame (s.trunk.rx.words ++ [w]) (s.trunk.rx.lock == .locked) = false := by
    rcases hbad with h | ⟨h, hsum⟩
    · simp [goodFrame, h]
    · exact Bool.and_eq_false_imp.mpr fun _ => beq_eq_false_iff_ne.mpr hsum
  rw [trunkWord_judges hs hcounted hpos, hnot, if_neg Bool.false_ne_true, takeBad_eq]
  simp [frameEnded, concealed, hpos]

theorem laneFrameOf_sample (words : List Word) (i : Fin 12) :
    (laneFrameOf words).samples[i] =
      if (words.getD 1 0).getLsbD i.val = false then 0
      else if words.getD (i.val + 2) 0 = 0x8000#16 then -32767 else (words.getD (i.val + 2) 0).toInt := by
  simp [laneFrameOf, takenSample, frameWord, syncWord]

theorem countGap_eq (gap : Bool) (s : State) :
    countGap gap s = { s with counters := { s.counters with
      sequenceGaps := if gap then satInc 65535 s.counters.sequenceGaps else s.counters.sequenceGaps } } := by
  cases gap <;> rfl

/-- Settles O10. -/
theorem goodFrameIsTakenAndCounted : Obligations.GoodFrameIsTakenAndCounted := by
  intro w s hs hlock hpos hlen hsum frame w1 slip
  have hgood : goodFrame (s.trunk.rx.words ++ [w]) (s.trunk.rx.lock == .locked) = true := by
    simp [goodFrame, hlock, hsum]
  have hctl : s.trunk.rx.words.getD 14 0 = frame.getD 14 0 := by
    simp [frame, List.getElem?_append_left (show 14 < s.trunk.rx.words.length by omega)]
  refine ⟨_, laneFrameOf frame, by rw [trunkWord_judges hs (.inl hlock) hpos, hgood, if_pos rfl], rfl,
    laneFrameOf_sample frame, ?_⟩
  intro u v
  have hu : storeJoin (laneFrameOf frame) (((frameEnded w s).withTrunk
      ⟨(frameEnded w s).trunk.rx, laneFrameOf frame, sequenceOf frame, 0⟩).withDog
        { s.dog with goodInTick := true }) = u := by
    rw [storeJoin_eq]
    simp only [u, frameEnded, hpos, State.withTrunk, State.withDog, slip, ← hlock]
    rfl
  have ht : takeGood frame (frameEnded w s) =
      countGap (isGap s.trunk.badRun s.trunk.lastSeq (sequenceOf frame)) v := by
    rw [takeGood]
    change countGap _ (controlWord _ (storeJoin (laneFrameOf frame) (((frameEnded w s).withTrunk
      ⟨(frameEnded w s).trunk.rx, laneFrameOf frame, sequenceOf frame, 0⟩).withDog
        { s.dog with goodInTick := true }))) = _
    rw [hu]; rfl
  have hv : TouchesMessage u v := controlWord_frame _ u
  unfold TouchesMessage at hv
  rw [ht, countGap_eq]
  have hgap : isGap s.trunk.badRun s.trunk.lastSeq (sequenceOf frame) =
      decide (s.trunk.badRun = 0 ∧ w1.extractLsb' 12 4 ≠ s.trunk.lastSeq + 1) := by
    simp [isGap, sequenceOf, frameWord, w1, bne, beq_eq_decide]
  refine ⟨by rw [hgap]; simp only [decide_eq_true_eq], ?_, ?_, ?_, ?_, ?_, ?_, ?_, fun hfill hesc => ?_⟩
  case refine_8 =>
    change controlWord (frame.getD 14 0) u = u
    rw [← hctl, hfill]
    exact controlWord_fill hesc
  all_goals rw [hv]

end Sys2Proof.Machine

/-! # Proofs: messages whose fields are written, and Restart (O39, O42, O49, O50, O52, O53) -/

namespace Sys2Proof.Machine

set_option Elab.async false

/-! ## A message that this unit takes -/

/-- A message of a kind that can complete no cue does what its verdict says and queues its Reply (R26, R29). -/
theorem Addressed.message_does {h : MsgHead} {s : State} (ha : Addressed h s) {k : MsgKind} {p : List Word}
    (hk : mayComplete k = false) (hp : p.length ≤ 64) {v : Verdict}
    (hv : judgeKind k (s.pins.profile == .strict) p (decoderIdle s) = v) :
    message k h p s = .next (reply h (kindCode k) v.result v.data v.state) := by
  rw [ha.message_eq k hp, ha.completeMessage_eq p hk hv]

/-! ## The words of a payload -/

/-- A word of a payload of numbers. -/
theorem arg_payload {l : List Nat} {n k : Nat} (hget : l[n - 1]? = some k) : arg (payload l) n = word k := by
  simp [arg, payload, List.getD_eq_getElem?_getD, hget]

/-- A word of a payload of numbers, as a number. -/
theorem argN_payload_at {l : List Nat} {n k : Nat} (hget : l[n - 1]? = some k) (hk : k < 65536) :
    argN (payload l) n = k := by
  rw [argN, arg_payload hget]
  simp [word, Nat.mod_eq_of_lt hk]

@[simp] theorem payload_length (l : List Nat) : (payload l).length = l.length := List.length_map _

@[simp] theorem above_word_bitNat (b : Bool) (n : Nat) : above n (word (bitNat b)) = false := by
  cases b
  · simp [above, word, bitNat]
  · have : 1 < 2 ^ (n + 1) := Nat.one_lt_two_pow (Nat.succ_ne_zero n)
    simp [above, word, bitNat, Nat.div_eq_of_lt this]

@[simp] theorem word_bitNat_getLsbD (b : Bool) : (word (bitNat b)).getLsbD 0 = b := by cases b <;> rfl

theorem not_outside {lo hi n : Nat} (hlo : lo ≤ n) (hhi : n ≤ hi) : outside lo hi n = false := by
  simp [outside, hlo, hhi]

/-! ## Notices and profile (R38, R40) -/

/-- A twelve-bit mask in a word leaves the reserved bits 0. -/
theorem maskReserved_setWidth (mask : BitVec 12) : maskReserved (mask.setWidth 16) = false := by
  have hlt := mask.isLt
  have hdiv : mask.toNat / 2 ^ (11 + 1) = 0 := Nat.div_eq_of_lt hlt
  simp only [maskReserved, above, BitVec.toNat_setWidth]
  rw [Nat.mod_eq_of_lt (by omega), hdiv]
  rfl

theorem judgeSetNotices_mask (strict : Bool) (mask : BitVec 12) (s : State) :
    judgeSetNotices strict [mask.setWidth 16] s =
      ⟨.accepted, [], s.withNotices { s.notices with enables := mask }⟩ := by
  have hword : arg [mask.setWidth 16] 1 = mask.setWidth 16 := rfl
  rw [judgeSetNotices, judged_pass, hword]
  · simp
  · simp [firstFailure_none_iff, lengthChecks, reservedCheck, hword, maskReserved_setWidth]

theorem judgeClearNotices_mask (strict : Bool) (mask : BitVec 12) (s : State) :
    judgeClearNotices strict [mask.setWidth 16] s =
      ⟨.accepted, [], s.withNotices { s.notices with causes := s.notices.causes &&& ~~~mask }⟩ := by
  have hword : arg [mask.setWidth 16] 1 = mask.setWidth 16 := rfl
  rw [judgeClearNotices, judged_pass, hword]
  · simp
  · simp [firstFailure_none_iff, lengthChecks, reservedCheck, hword, maskReserved_setWidth]

theorem judgeSetProfile_range (strict : Bool) {n : Nat} (hn : n ≤ 65535) (hout : 2 ≤ n) (s : State) :
    judgeSetProfile strict (payload [n]) s = refuse .range s := by
  have hword : argN (payload [n]) 1 = n := argN_payload_at rfl (by omega)
  have hbad : outside 0 1 n = true := (outside_iff 0 1 n).mpr (.inr (by omega))
  exact judged_fail (by rw [hword, hbad]; simp [lengthChecks, firstFailure])

/-- Settles O52. -/
theorem noticesAndProfileAreSet : Obligations.NoticesAndProfileAreSet := by
  intro h s mask ha
  refine ⟨?setNotices, ?clearNotices, ?strict, ?lenient, fun n hlow hhigh => ?range⟩
  case setNotices => exact ha.message_does (k := .setNotices) rfl (by simp) (judgeSetNotices_mask _ mask _)
  case clearNotices => exact ha.message_does (k := .clearNotices) rfl (by simp) (judgeClearNotices_mask _ mask _)
  case strict => exact ha.message_does (k := .setProfile) rfl (by decide) (judged_pass (by cases s.pins.profile <;> rfl))
  case lenient => exact ha.message_does (k := .setProfile) rfl (by decide) (judged_pass (by cases s.pins.profile <;> rfl))
  case range =>
    exact ha.message_does (k := .setProfile) (v := refuse .range _) rfl (by simp) (judgeSetProfile_range _ hhigh hlow _)

/-! ## Restart (R41) -/

/-- The effective target of a base level, and the step that reaches it, as the model computes them (R165, R166). -/
theorem targetOf_eq (h : Health) (floor base : Nat) : targetOf h floor base = floored h floor base := by
  cases h <;> rfl

theorem stepTo_eq (ms target current : Nat) :
    stepTo ms target current = fadeStepFor ms (levelDistance target current) := rfl

/-- A report offered to an empty queue joins it. -/
theorem offerReport_empty {s : State} (r : Report) (h : s.reports = ⟨[], 0⟩) :
    offerReport r s = { s with reports := ⟨[r], 0⟩ } := by
  rw [offerReport, h]
  rfl

/-- A report joins a queue that has room (R31). -/
theorem offerReport_room {s : State} (r : Report) (h : s.reports.queue.length < 16) :
    offerReport r s = { s with reports := { s.reports with queue := s.reports.queue ++ [r] } } := if_pos h

/-- A report is lost to a full queue, counted and noticed (R31). -/
theorem offerReport_full {s : State} (r : Report) (h : 16 ≤ s.reports.queue.length) :
    offerReport r s = { s with
      reports := { s.reports with lost := satInc 65535 s.reports.lost }
      notices := { s.notices with causes := s.notices.causes ||| 0x020#12 } } := if_neg (Nat.not_lt.mpr h)

theorem reply_restart {h : MsgHead} {s : State} (hempty : s.reports = ⟨[], 0⟩) :
    reply h (kindCode .restart) .accepted [] s = { s with reports := ⟨[⟨0x3F#6, h.tag, [0x3D, 0]⟩], 0⟩ } :=
  offerReport_empty _ hempty

theorem restartMixer_volume (m : Mixer) (i : Fin 65) :
    (restartMixer m).volumes[i] = volumeGain (min m.audio.defaultStep
      (if i = 64 then m.audio.paCeiling else m.audio.headsetCeiling)) := by
  simp [restartMixer, restartVolume, programmeStep, ceilingOf, paIndex]
  rfl

theorem restartLights_zone (h : Health) (l : Lights) (i : Fin 16) :
    (restartLights h l).zones[i] =
      if l.zones[i].overlay = none then l.zones[i]
      else { l.zones[i] with
        overlay := none
        fadeStep := stepTo l.release (targetOf h l.floor l.zones[i].base) l.zones[i].current } := by
  rw [restartLights, mapTable_get]
  simp only [Option.isSome_iff_ne_none, ne_eq, ite_not, targetOf_eq, stepTo_eq]
  rfl

/-- Settles O53: the Restart values of every block, and the Reply alone in the emptied queue. -/
theorem restartKeepsTablesAndSettings : Obligations.RestartKeepsTablesAndSettings := by
  intro h s ha
  have hexec := exec_restart ha
  rw [reply_restart rfl] at hexec
  refine ⟨_, hexec, rfl, fun i => ?line, fun i => ?record, fun i => ?volume, fun i => ?zone⟩
  case line => exact mapTable_get restartLine s.lines i
  case record => exact mapTable_get (restartRecord s.prog s.mixer.audio.defaultStep) s.seats.records i
  case volume => exact restartMixer_volume s.mixer i
  case zone => exact restartLights_zone s.dog.health s.lights i

/-! ## Lines and audio settings (R70, R107) -/

/-- Settles O42. -/
theorem lineAndAudioSettingsAreReplaced : Obligations.LineAndAudioSettingsAreReplaced := by
  intro h s ha
  refine ⟨fun i enable openT shortT debounce hshort hopen hdeb1 hdeb2 => ?line,
    fun depth attack release headset pa floor step hdepth ha1 ha2 hr1 hr2 hh1 hh2 hp1 hp2 hfloor hstep => ?audio⟩
  case line =>
    generalize hp : payload [i.val, bitNat enable, openT, shortT, debounce] = p
    have h1 : argN p 1 = i.val := hp ▸ argN_payload_at rfl (by omega)
    have h2 : arg p 2 = word (bitNat enable) := hp ▸ arg_payload rfl
    have h3 : argN p 3 = openT := hp ▸ argN_payload_at rfl (by omega)
    have h4 : argN p 4 = shortT := hp ▸ argN_payload_at rfl (by omega)
    have h5 : argN p 5 = debounce := hp ▸ argN_payload_at rfl (by omega)
    have hlen : p.length = 5 := hp ▸ rfl
    have hline : lineOf p = i := by simp [lineOf, h1]
    have hi : i.val ≤ 3 := by omega
    refine ha.message_does (k := .setSeatLine) (v := ⟨_, _, _⟩) rfl (by omega) ((judged_pass ?_).trans ?_)
    · have hok : lineRangeBad p = false := by
        simp only [lineRangeBad, h1, h3, h4, h5, not_outside (Nat.zero_le _) hi, not_outside (Nat.zero_le _) hopen,
          not_outside (Nat.zero_le _) (show shortT ≤ 255 by omega), not_outside hdeb1 hdeb2]
        simp [hshort]
      simp [firstFailure_none_iff, lengthChecks, reservedCheck, hlen, h2, hok]
    · subst hline
      rw [h2, h3, h4, h5, word_bitNat_getLsbD]; rfl
  case audio =>
    generalize hp : payload [depth, attack, release, headset, pa, floor, step] = p
    have h1 : argN p 1 = depth := hp ▸ argN_payload_at rfl (by omega)
    have h2 : argN p 2 = attack := hp ▸ argN_payload_at rfl (by omega)
    have h3 : argN p 3 = release := hp ▸ argN_payload_at rfl (by omega)
    have h4 : argN p 4 = headset := hp ▸ argN_payload_at rfl (by omega)
    have h5 : argN p 5 = pa := hp ▸ argN_payload_at rfl (by omega)
    have h6 : argN p 6 = floor := hp ▸ argN_payload_at rfl (by omega)
    have h7 : argN p 7 = step := hp ▸ argN_payload_at rfl (by omega)
    have hlen : p.length = 7 := hp ▸ rfl
    refine ha.message_does (k := .setAudio) (v := ⟨_, _, _⟩) rfl (by omega) ((judged_pass ?_).trans ?_)
    · have hok : audioRangeBad p = false := by
        simp only [audioRangeBad, h1, h2, h3, h4, h5, h6, h7, not_outside, Nat.zero_le, hdepth, ha1, ha2, hr1, hr2,
          hh1, hh2, hp1, hp2, hfloor, hstep, Bool.or_self]
      simp [firstFailure_none_iff, lengthChecks, hlen, hok]
    · simp only [audioOf, h1, h2, h3, h4, h5, h6, h7]; rfl

end Sys2Proof.Machine

/-! # Proofs: tables written by messages (O39, O40, O43, O44, O49, O50) -/

namespace Sys2Proof.Machine

set_option Elab.async false

/-! ## Entries of fixed length in a payload -/

/-- A word of an entry, in a list of entries that all take the same number of words. -/
theorem getElem?_flatMap_entry {α β : Type} {f : α → List β} {m : Nat} (hf : ∀ a, (f a).length = m) (l : List α)
    {k j : Nat} (hj : j < m) : (l.flatMap f)[m * k + j]? = l[k]?.bind fun a => (f a)[j]? := by
  induction l generalizing k with
  | nil => simp
  | cons a l ih =>
    rw [List.flatMap_cons]
    cases k with
    | zero => rw [List.getElem?_append_left (by rw [hf]; omega)]; simp
    | succ k =>
      rw [List.getElem?_append_right (by rw [hf, Nat.mul_succ]; omega), hf,
        show m * (k + 1) + j - m = m * k + j by rw [Nat.mul_succ]; omega, ih]
      simp

/-- A word of entry `k` of a message whose entries follow its first two words. -/
theorem arg_entry {α : Type} {f : α → List Nat} {m : Nat} (hf : ∀ a, (f a).length = m) {l : List α} {a : α} {x y v : Nat}
    {k : Nat} (hk : l[k]? = some a) (j : Nat) (hj : (f a)[j]? = some v) :
    arg (payload (x :: y :: l.flatMap f)) (m * k + (j + 3)) = word v := by
  have hjm : j < m := hf a ▸ (List.getElem?_eq_some_iff.mp hj).1
  refine arg_payload ?_
  change (x :: y :: l.flatMap f)[m * k + j + 2]? = _
  rw [List.getElem?_cons_succ, List.getElem?_cons_succ, getElem?_flatMap_entry hf l hjm, hk]
  exact hj

theorem word_toNat {n : Nat} (h : n < 65536) : (word n).toNat = n := by simp [word, Nat.mod_eq_of_lt h]

theorem argN_entry {α : Type} {f : α → List Nat} {m : Nat} (hf : ∀ a, (f a).length = m) {l : List α} {a : α} {x y v : Nat}
    {k : Nat} (hk : l[k]? = some a) (j : Nat) (hj : (f a)[j]? = some v) (hv : v < 65536) :
    argN (payload (x :: y :: l.flatMap f)) (m * k + (j + 3)) = v := by
  rw [argN, arg_entry hf hk j hj, word_toNat hv]

/-- A list is read back entry by entry. -/
theorem map_range_eq {α : Type} {l : List α} {g : Nat → α} (h : ∀ k a, l[k]? = some a → g k = a) :
    (List.range l.length).map g = l := by
  refine List.ext_getElem (by simp) fun k h1 h2 => ?_
  rw [List.getElem_map, List.getElem_range]
  exact h k _ (List.getElem?_eq_getElem h2)

theorem length_flatMap_entry {α β : Type} {f : α → List β} {m : Nat} (hf : ∀ a, (f a).length = m) (l : List α) :
    (l.flatMap f).length = m * l.length := by
  simp [List.length_flatMap, hf, Nat.mul_comm]

/-! ## Chimes and the other settings (R157, R160, R176, R183) -/

/-- The words of a note in Set Chime (R157). -/
def noteFields (n : Note) : List Nat := [n.divider, n.duration, n.level]

theorem noteFields_length (n : Note) : (noteFields n).length = 3 := rfl

/-- The fields of a note lie in their ranges (R155). -/
def NoteOk (n : Note) : Prop := 4 ≤ n.divider ∧ n.divider ≤ 64 ∧ 20 ≤ n.duration ∧ n.duration ≤ 1000 ∧ n.level ≤ 32767

theorem noteRangeBad_of_ok {n : Note} (h : NoteOk n) : noteRangeBad n = false := by
  obtain ⟨g1, g2, g3, g4, g5⟩ := h
  simp [noteRangeBad, not_outside g1 g2, not_outside g3 g4, not_outside (Nat.zero_le _) g5]

theorem notesOf_payload (x : Nat) {notes : List Note} (hlen : notes.length ≤ 4) (hok : ∀ n ∈ notes, NoteOk n) :
    notesOf (payload (x :: notes.length :: notes.flatMap noteFields)) = notes := by
  rw [notesOf, argN_payload_at rfl (by omega)]
  refine map_range_eq fun k n hk => ?_
  obtain ⟨-, h1, -, h2, h3⟩ := hok n (List.mem_of_getElem? hk)
  have hdivider := argN_entry noteFields_length (x := x) (y := notes.length) hk 0 rfl (by omega)
  have hduration := argN_entry noteFields_length (x := x) (y := notes.length) hk 1 rfl (by omega)
  have hlevel := argN_entry noteFields_length (x := x) (y := notes.length) hk 2 rfl (by omega)
  rw [hdivider, hduration, hlevel]

theorem judgeSetChime_notes (strict : Bool) (slot : Fin 4) {notes : List Note} (hlen : notes.length ≤ 4)
    (hok : ∀ n ∈ notes, NoteOk n) (s : State) :
    judgeSetChime strict (payload (slot.val :: notes.length :: notes.flatMap noteFields)) s =
      ⟨.accepted, [], s.withAnn { s.ann with slots := setAt s.ann.slots slot notes }⟩ := by
  have hnotes := notesOf_payload slot.val hlen hok
  have hsize := length_flatMap_entry noteFields_length notes
  generalize hp : payload _ = p at hnotes ⊢
  have h1 : argN p 1 = slot.val := hp ▸ argN_payload_at rfl (by omega)
  have h2 : argN p 2 = notes.length := hp ▸ argN_payload_at rfl (by omega)
  have hplen : p.length = 2 + 3 * notes.length := by
    rw [← hp, payload_length, List.length_cons, List.length_cons, hsize]; omega
  have hbad : notes.any noteRangeBad = false :=
    List.any_eq_false.mpr fun n hn => by simp [noteRangeBad_of_ok (hok n hn)]
  refine (judged_pass ?_).trans ?_
  · simp [firstFailure_none_iff, countChecks, lengthChecks, hplen, h1, h2, hnotes, hbad, hlen,
      not_outside (Nat.zero_le _) (show slot.val ≤ 3 by omega)]
    omega
  · rw [h1, hnotes]; simp

theorem judgeSetAnnounce_fields (strict : Bool) {timeout hold gap : Nat} (halt : Bool) (ht1 : 500 ≤ timeout)
    (ht2 : timeout ≤ 8000) (hh1 : 100 ≤ hold) (hh2 : hold ≤ 2000) (hg : gap ≤ 10000) (s : State) :
    judgeSetAnnounce strict (payload [timeout, hold, gap, bitNat halt]) s =
      ⟨.accepted, [], s.withAnn
        { s.ann with cueTimeout := timeout, silenceHold := hold, replayGap := gap, haltUse := halt }⟩ := by
  generalize hp : payload _ = p
  have h1 : argN p 1 = timeout := hp ▸ argN_payload_at rfl (by omega)
  have h2 : argN p 2 = hold := hp ▸ argN_payload_at rfl (by omega)
  have h3 : argN p 3 = gap := hp ▸ argN_payload_at rfl (by omega)
  have h4 : arg p 4 = word (bitNat halt) := hp ▸ arg_payload rfl
  have hlen : p.length = 4 := hp ▸ rfl
  refine (judged_pass ?_).trans ?_
  · simp [firstFailure_none_iff, lengthChecks, reservedCheck, hlen, h1, h2, h3, h4, not_outside, ht1, ht2, hh1, hh2, hg]
  · rw [h1, h2, h3, h4, word_bitNat_getLsbD]

/-- The zones under new settings (R165, R166, R176). -/
theorem writeZoneSettings_eq (h : Health) (floor release : Nat) (l : Lights) :
    writeZoneSettings h floor release l = { l with
      floor := floor, release := release
      zones := Vector.ofFn fun i : Fin 16 =>
        (let z := l.zones[i]
        let target := targetOf h floor z.base
        if z.overlay = none ∧ targetOf h l.floor z.base ≠ target then
          { z with fadeStep := stepTo release target z.current }
        else z) } := by
  simp only [writeZoneSettings, retarget, mapTable, targetOf_eq, stepTo_eq, releaseZone, Option.isNone_iff_eq_none,
    Bool.and_eq_true, bne_iff_ne, ne_eq]

/-- While health is OK the floor lies on no target, so no zone is restepped (R165). -/
theorem writeZoneSettings_ok (floor release : Nat) (l : Lights) :
    writeZoneSettings .ok floor release l = { l with floor := floor, release := release } := by
  rw [writeZoneSettings_eq]
  simp [targetOf]

theorem judgeSetZones_fields (strict : Bool) {floor release : Nat} (hf : floor ≤ 1023) (hr : release ≤ 10000)
    (s : State) :
    judgeSetZones strict (payload [floor, release]) s =
      ⟨.accepted, [], s.withLights (writeZoneSettings s.dog.health floor release s.lights)⟩ := by
  generalize hp : payload _ = p
  have h1 : argN p 1 = floor := hp ▸ argN_payload_at rfl (by omega)
  have h2 : argN p 2 = release := hp ▸ argN_payload_at rfl (by omega)
  have hlen : p.length = 2 := hp ▸ rfl
  refine (judged_pass ?_).trans ?_
  · simp [firstFailure_none_iff, lengthChecks, hlen, h1, h2, not_outside, hf, hr]
  · rw [h1, h2]

theorem judgeSetAmbient_fields (strict : Bool) {t1 t2 t3 dwell : Nat} (h12 : t1 < t2) (h23 : t2 < t3) (ht : t3 ≤ 255)
    (hd1 : 1 ≤ dwell) (hd2 : dwell ≤ 60) (s : State) :
    judgeSetAmbient strict (payload [t1, t2, t3, dwell]) s =
      ⟨.accepted, [], s.withCues { s.cues with ambient :=
        { s.cues.ambient with t1 := t1, t2 := t2, t3 := t3, dwell := dwell } }⟩ := by
  generalize hp : payload _ = p
  have h1 : argN p 1 = t1 := hp ▸ argN_payload_at rfl (by omega)
  have h2 : argN p 2 = t2 := hp ▸ argN_payload_at rfl (by omega)
  have h3 : argN p 3 = t3 := hp ▸ argN_payload_at rfl (by omega)
  have h4 : argN p 4 = dwell := hp ▸ argN_payload_at rfl (by omega)
  have hlen : p.length = 4 := hp ▸ rfl
  refine (judged_pass ?_).trans ?_
  · simp [firstFailure_none_iff, lengthChecks, hlen, h1, h2, h3, h4, not_outside, ht, hd1, hd2, h12, h23,
      show t1 ≤ 255 by omega, show t2 ≤ 255 by omega]
  · rw [h1, h2, h3, h4]

/-- Settles O49. -/
theorem settingsAreReplacedTogether : Obligations.SettingsAreReplacedTogether := by
  intro h s ha
  refine ⟨fun slot notes hlen hok => ?chime, fun timeout hold gap halt ht1 ht2 hh1 hh2 hg => ?announce,
    fun floor release hf hr => ?zones, fun floor release hf hr hhealth => ?zonesOk,
    fun t1 t2 t3 dwell h12 h23 ht hd1 hd2 => ?ambient⟩
  case chime =>
    have hsize := length_flatMap_entry noteFields_length notes
    refine ha.message_does (k := .setChime) (v := ⟨_, _, _⟩) rfl ?_ (judgeSetChime_notes _ slot hlen hok _)
    rw [payload_length, List.length_cons, List.length_cons]
    change (notes.flatMap noteFields).length + 1 + 1 ≤ 64
    omega
  case announce =>
    exact ha.message_does (k := .setAnnounce) (v := ⟨_, _, _⟩) rfl (by simp)
      (judgeSetAnnounce_fields _ halt ht1 ht2 hh1 hh2 hg _)
  case zones =>
    refine (ha.message_does (k := .setZones) (v := ⟨_, _, _⟩) rfl (by simp) (judgeSetZones_fields _ hf hr _)).trans ?_
    rw [writeZoneSettings_eq]; rfl
  case zonesOk =>
    refine (ha.message_does (k := .setZones) (v := ⟨_, _, _⟩) rfl (by simp) (judgeSetZones_fields _ hf hr _)).trans ?_
    rw [show (decoderIdle s).dog.health = .ok from hhealth, writeZoneSettings_ok]; rfl
  case ambient =>
    exact ha.message_does (k := .setAmbient) (v := ⟨_, _, _⟩) rfl (by simp)
      (judgeSetAmbient_fields _ h12 h23 ht hd1 hd2 _)

end Sys2Proof.Machine

/-! # Proofs: the programme map, seats, the route and unknown kinds (O39, O40, O43, O44) -/

namespace Sys2Proof.Machine

set_option Elab.async false

/-! ## Unknown kinds (R26, R31) -/

theorem judgeMessage_unknown {h : MsgHead} {s : State} (ha : Addressed h s) {code : BitVec 6} (hcode : kindOf code = none)
    (p : List Word) : judgeMessage h code p s = refuse .unknownKind s := by
  simp [judgeMessage, ha.whole, hcode]

theorem exec_unknownMessage {h : MsgHead} {s : State} (ha : Addressed h s) {code : BitVec 6} (hcode : kindOf code = none)
    {p : List Word} (hp : p.length ≤ 64) :
    exec (.unknownMessage h code p) s =
      .next (offerReport ⟨0x3F#6, h.tag, [word code.toNat, 1]⟩ (decoderIdle s)) := by
  have hfits : ¬ Config.messageWords < p.length := Nat.not_lt.mpr hp
  have hexec : exec (.unknownMessage h code p) s = .next (receive h code p s) := by
    change Host.Outcome.next (if (kindOf code).isSome then s else running (receive h code p) s) = _
    rw [hcode, running_free ha.running]; rfl
  rw [hexec]
  simp [receive, ha.namesUnit_eq_true, hfits, completeMessage, judgeMessage_unknown (addressed_decoderIdle ha) hcode,
    refuse, completes, reply, replyDue, hcode, replyReport, resultCode, replyKind]
  rfl

/-- Settles O39. -/
theorem unknownKindIsRefusedAndAnswered : Obligations.UnknownKindIsRefusedAndAnswered := by
  intro h code p s hcode
  refine ⟨fun ha hp hroom => ?joins, fun ha hp hfull => ?lost, fun hs hown hall => ?dropped⟩
  case joins => rw [exec_unknownMessage ha hcode hp, offerReport_room (s := decoderIdle s) _ hroom]; rfl
  case lost => rw [exec_unknownMessage ha hcode hp, offerReport_full (s := decoderIdle s) _ hfull]; rfl
  case dropped =>
    have hother : namesUnit s.pins.unit h.unit = false := by simp [namesUnit, hown, hall]
    change Host.Outcome.next (if (kindOf code).isSome then s else running (receive h code p) s) = _
    rw [hcode, running_free hs]
    simp [receive, hother, decoderDiscard, Decoder.idle]

/-! ## The programme map (R51 to R54) -/

theorem laneKindOf_code (k : LaneKind) : laneKindOf (laneKindCode k) = k := by cases k <;> rfl

theorem laneKindCode_le (k : LaneKind) : laneKindCode k ≤ 3 := by cases k <;> decide

theorem laneKindCode_spoken (k : LaneKind) :
    (laneKindCode k = 1 ∨ laneKindCode k = 2) ↔ (k = .commentary ∨ k = .announce) := by cases k <;> decide

/-- What the words of a lawful Set Lane say. -/
theorem setLane_words {lane : Fin 12} {kind : LaneKind} {tag trim silence : Nat} (htrim : trim ≤ 32767)
    (hsilence : silence ≤ 15)
    (htag : if kind = .commentary ∨ kind = .announce then 1 ≤ tag ∧ tag ≤ 63 else tag = 0) {p : List Word}
    (hp : payload [lane.val, laneKindCode kind, tag, trim, silence] = p) :
    p.length = 5 ∧ laneRangeBad p = false ∧ Fin.ofNat 12 (argN p 1) = lane ∧
      laneEntryOf p = ⟨kind, tag, trim, silence⟩ := by
  have htop : tag ≤ 63 := by split at htag <;> omega
  have hkind := laneKindCode_le kind
  have h1 : argN p 1 = lane.val := hp ▸ argN_payload_at rfl (by omega)
  have h2 : argN p 2 = laneKindCode kind := hp ▸ argN_payload_at rfl (by omega)
  have h3 : argN p 3 = tag := hp ▸ argN_payload_at rfl (by omega)
  have h4 : argN p 4 = trim := hp ▸ argN_payload_at rfl (by omega)
  have h5 : argN p 5 = silence := hp ▸ argN_payload_at rfl (by omega)
  refine ⟨hp ▸ rfl, ?_, by simp [h1], by simp [laneEntryOf, h2, h3, h4, h5, laneKindOf_code]⟩
  have hcode : (if laneKindCode kind = 1 ∨ laneKindCode kind = 2 then outside 1 63 tag else outside 0 0 tag) = false := by
    simp only [laneKindCode_spoken]
    split at htag
    next hspoken => rw [if_pos hspoken, not_outside htag.1 htag.2]
    next hsilent => rw [if_neg hsilent, not_outside (Nat.zero_le _) htag.le]
  simp only [laneRangeBad, h1, h2, h3, h4, h5, hcode, not_outside (Nat.zero_le _) (show lane.val ≤ 11 by omega),
    not_outside (Nat.zero_le _) hkind, not_outside (Nat.zero_le _) htrim, not_outside (Nat.zero_le _) hsilence,
    Bool.or_self]

theorem carouselTags_payload {tags : List Nat} (hlen : tags.length ≤ 12) (hok : ∀ t ∈ tags, 1 ≤ t ∧ t ≤ 63) :
    carouselTags (payload (tags.length :: tags)) = tags := by
  rw [carouselTags, argN_payload_at rfl (by omega)]
  simp only [payload, List.map_cons, List.drop_succ_cons, List.drop_zero]
  rw [List.take_of_length_le (by simp), List.map_map]
  refine (List.map_congr_left fun t ht => ?_).trans (List.map_id tags)
  have := (hok t ht).2
  exact word_toNat (by omega)

theorem rehome_eq (tags : List Nat) (r : SeatRecord) :
    rehome tags r =
      { r with language := if r.language.any (fun t => tags.contains t) then r.language else tags.head? } := by
  cases h : r.language with
  | none => simp [rehome, h]
  | some t =>
    by_cases ht : t ∈ tags
    · have hin : (some t).any (fun t => tags.contains t) = true := by simp [ht]
      rw [if_pos hin]
      simp only [rehome, h, if_pos ht]
      rw [← h]
    · simp [rehome, h, ht]

/-- Settles O40. -/
theorem programmeMapIsWritten : Obligations.ProgrammeMapIsWritten := by
  intro h s ha
  refine ⟨fun lane kind tag trim silence htrim hsilence htag => ⟨fun hfree hannounce hbed => ?written, fun hheld => ?inUse⟩,
    fun tags hlen hnodup hok => ?carousel⟩
  case written =>
    generalize hp : payload _ = p
    obtain ⟨hplen, hrange, hlane, hentry⟩ := setLane_words htrim hsilence htag hp
    have hwrite : writeLane p s.prog.lanes = setAt s.prog.lanes lane ⟨kind, tag, trim, silence⟩ := by
      rw [writeLane, hlane, hentry]
    refine ha.message_does (k := .setLane) (v := ⟨_, _, _⟩) rfl (by omega) ((judged_pass ?_).trans ?_)
    · have hlimits : laneLimits (writeLane p s.prog.lanes) = true := by simp [hwrite, laneLimits, hannounce, hbed]
      have hnot : (heldLanes (decoderIdle s)).contains lane = false :=
        Bool.eq_false_iff.mpr fun hin => hfree (List.contains_iff_mem.mp hin)
      rw [hrange, hlane, hnot, show laneLimits (writeLane p (decoderIdle s).prog.lanes) = true from hlimits]
      simp [firstFailure_none_iff, lengthChecks, hplen]
    · exact congrArg (fun l => Verdict.mk .accepted [] ((decoderIdle s).withProg ⟨l, s.prog.carousel⟩)) hwrite
  case inUse =>
    generalize hp : payload _ = p
    obtain ⟨hplen, hrange, hlane, -⟩ := setLane_words htrim hsilence htag hp
    have hin : (heldLanes (decoderIdle s)).contains lane = true := List.contains_iff_mem.mpr hheld
    refine ha.message_does (k := .setLane) (v := refuse .inUse _) rfl (by omega) (judged_fail ?_)
    rw [hrange, hlane, hin]
    simp [firstFailure, lengthChecks, hplen]
  case carousel =>
    have htags := carouselTags_payload hlen hok
    have hlen' : (payload (tags.length :: tags)).length = 1 + tags.length := by simp; omega
    have hcount : argN (payload (tags.length :: tags)) 1 = tags.length := argN_payload_at rfl (by omega)
    refine ha.message_does (k := .setCarousel) (v := ⟨_, _, _⟩) rfl (by omega) ((judged_pass ?_).trans ?_)
    · have hrange : tags.any (outside 1 63) = false :=
        List.any_eq_false.mpr fun t ht => by simp [not_outside (hok t ht).1 (hok t ht).2]
      simp [firstFailure_none_iff, countChecks, lengthChecks, hlen', hcount, htags, hlen, hrange, hnodup]
    · rw [htags, replaceCarousel]
      have hrecords : mapTable (rehome tags) s.seats.records = Vector.ofFn fun i : Fin 65 =>
          { s.seats.records[i] with language :=
            if s.seats.records[i].language.any (fun t => tags.contains t) then s.seats.records[i].language
            else tags.head? } := by
        simp only [mapTable, rehome_eq]
      exact congrArg (fun r => Verdict.mk .accepted [] (((decoderIdle s).withProg ⟨s.prog.lanes, tags⟩).withSeats
        ⟨r, s.seats.paSource⟩)) hrecords

/-! ## Seat records (R88 to R91) -/

theorem above_eq_false {n : Nat} {w : Word} (h : w.toNat < 2 ^ (n + 1)) : above n w = false := by
  simp [above, Nat.div_eq_of_lt h]

/-- The selected fields of a seat write lie in their ranges (R88, R90). -/
theorem seatFieldsBad_eq_false {carousel : List Nat} {hasPa : Bool} {f : SeatWrite}
    (hl : f.mask.getLsbD 1 = true → f.language ∈ carousel ∧ 1 ≤ f.language ∧ f.language ≤ 63 ∨
      f.language = 0 ∧ carousel = [])
    (hv : f.mask.getLsbD 2 = true → f.volume ≤ 15) (hp : f.mask.getLsbD 4 = true → f.source ≤ 2 ∧ hasPa = true) :
    seatFieldsBad carousel hasPa f = false := by
  have hlanguage : (f.mask.getLsbD 1 && languageBad carousel f.language) = false := by
    refine Bool.and_eq_false_imp.mpr fun hsel => ?_
    rcases hl hsel with ⟨hmem, hlow, hhigh⟩ | ⟨hzero, hempty⟩
    · simp [languageBad, not_outside (Nat.zero_le _) hhigh, hmem, Nat.pos_iff_ne_zero.mp hlow]
    · simp [languageBad, not_outside, hzero, hempty]
  have hvolume : (f.mask.getLsbD 2 && outside 0 15 f.volume) = false :=
    Bool.and_eq_false_imp.mpr fun hsel => not_outside (Nat.zero_le _) (hv hsel)
  have hsource : (f.mask.getLsbD 4 && (outside 0 2 f.source || !hasPa)) = false := by
    refine Bool.and_eq_false_imp.mpr fun hsel => ?_
    obtain ⟨hle, hpa⟩ := hp hsel
    simp [not_outside (Nat.zero_le _) hle, hpa]
  rw [seatFieldsBad, hlanguage, hvolume, hsource]
  rfl

/-- No reserved bit of a field that STRICT examines is set (R27, R88). -/
theorem seatReserved_check {profile : Profile} {f : SeatWrite}
    (h : profile = .strict → f.mask.toNat < 32 ∧ (f.mask.getLsbD 0 = true → f.enable.toNat < 2) ∧
      (f.mask.getLsbD 3 = true → f.locks.toNat < 4)) :
    ((profile == .strict) && seatReserved f) = false := by
  refine Bool.and_eq_false_imp.mpr fun hstrict => ?_
  obtain ⟨hmask, henable, hlocks⟩ := h (beq_iff_eq.mp hstrict)
  have h0 : (f.mask.getLsbD 0 && above 0 f.enable) = false :=
    Bool.and_eq_false_imp.mpr fun hsel => above_eq_false (henable hsel)
  have h3 : (f.mask.getLsbD 3 && above 1 f.locks) = false :=
    Bool.and_eq_false_imp.mpr fun hsel => above_eq_false (hlocks hsel)
  rw [seatReserved, above_eq_false hmask, h0, h3]
  rfl

theorem paSourceOf_word {w : Word} (h : w.toNat ≤ 2) :
    paSourceOf w.toNat = if w = 0 then .off else if w = 1 then .commentary else .announceOnly := by
  have hzero : w = 0 ↔ w.toNat = 0 := BitVec.toNat_eq
  have hone : w = 1 ↔ w.toNat = 1 := BitVec.toNat_eq
  rw [if_congr hzero rfl rfl, if_congr hone rfl rfl]
  generalize w.toNat = n at h
  match n, h with
  | 0, _ => rfl
  | 1, _ => rfl
  | 2, _ => rfl

/-- The seat table after a seat write whose selected fields are lawful (R89, R90). -/
theorem writeSeats_eq (first last : Fin 65) (mask enable language volume locks source : Word) (t : SeatTable)
    (hp : mask.getLsbD 4 = true → source.toNat ≤ 2 ∧ last = 64) :
    writeSeats first.val last.val ⟨mask, enable, language.toNat, volume.toNat, locks, source.toNat⟩ t =
      ⟨Vector.ofFn fun i : Fin 65 =>
        if first ≤ i ∧ i ≤ last then { t.records[i] with
          enabled := if mask.getLsbD 0 = true then enable.getLsbD 0 else t.records[i].enabled
          language := if mask.getLsbD 1 = true then (if language = 0 then none else some language.toNat)
            else t.records[i].language
          step := if mask.getLsbD 2 = true then volume.toNat else t.records[i].step
          languageLock := if mask.getLsbD 3 = true then locks.getLsbD 0 else t.records[i].languageLock
          volumeLock := if mask.getLsbD 3 = true then locks.getLsbD 1 else t.records[i].volumeLock }
        else t.records[i],
        if mask.getLsbD 4 = false then t.paSource
        else if source = 0 then .off else if source = 1 then .commentary else .announceOnly⟩ := by
  have hnone : language.toNat = 0 ↔ language = 0 := (BitVec.toNat_eq (x := language) (y := 0)).symm
  have hsource : (if mask.getLsbD 4 && decide (first.val ≤ 64) && decide (64 ≤ last.val) then paSourceOf source.toNat
      else t.paSource) = if mask.getLsbD 4 = false then t.paSource
        else if source = 0 then .off else if source = 1 then .commentary else .announceOnly := by
    cases hsel : mask.getLsbD 4 with
    | false => rfl
    | true =>
      obtain ⟨hle, rfl⟩ := hp hsel
      have hfirst : first.val ≤ 64 := by omega
      simp [hfirst, paSourceOf_word hle]
  simp only [writeSeats, writeSeat, hsource, if_congr hnone rfl rfl, Fin.le_def]

/-- Settles O43. -/
theorem seatWritesWriteTheSelectedFields : Obligations.SeatWritesWriteTheSelectedFields := by
  intro h s first last mask enable language volume locks source ha hle e l v k p hstrict hlang hvol hsrc fields written after
  have hfirst : first.val ≤ 64 := by omega
  have hlast : last.val ≤ 64 := by omega
  have hbad (hasPa : Bool) (hpa : p = true → hasPa = true) :
      seatFieldsBad s.prog.carousel hasPa ⟨mask, enable, language.toNat, volume.toNat, locks, source.toNat⟩ = false :=
    seatFieldsBad_eq_false (fun hsel => (hlang hsel).imp_right fun ⟨hzero, hempty⟩ => ⟨by simp [hzero], hempty⟩) hvol
      fun hsel => ⟨(hsrc hsel).1, hpa hsel⟩
  have hwrite := writeSeats_eq first last mask enable language volume locks source s.seats hsrc
  have hafter : (decoderIdle s).withSeats
      (writeSeats first.val last.val ⟨mask, enable, language.toNat, volume.toNat, locks, source.toNat⟩ s.seats) = after :=
    congrArg (decoderIdle s).withSeats hwrite
  refine ⟨?range, fun heq => ?one⟩
  case range =>
    have h1 : argN (word first.val :: word last.val :: fields) 1 = first.val := word_toNat (by omega)
    have h2 : argN (word first.val :: word last.val :: fields) 2 = last.val := word_toNat (by omega)
    have hwords : seatWriteAt (word first.val :: word last.val :: fields) 3 =
      ⟨mask, enable, language.toNat, volume.toNat, locks, source.toNat⟩ := rfl
    refine ha.message_does (k := .setSeatRange) (v := ⟨_, _, _⟩) rfl (by simp [fields]) ((judged_pass ?_).trans ?_)
    · have hpa : p = true → (decide (first.val ≤ 64) && decide (64 ≤ last.val)) = true := fun hsel => by
        simp [hfirst, (hsrc hsel).2]
      rw [hwords, h1, h2, reservedCheck, seatReserved_check hstrict,
        show seatFieldsBad (decoderIdle s).prog.carousel _ _ = false from hbad _ hpa]
      simp [firstFailure_none_iff, lengthChecks, not_outside, hfirst, hlast, hle, fields]
    · rw [hwords, h1, h2]
      exact congrArg (Verdict.mk .accepted []) hafter
  case one =>
    subst heq
    have h1 : argN (word first.val :: fields) 1 = first.val := word_toNat (by omega)
    have hwords : seatWriteAt (word first.val :: fields) 2 =
      ⟨mask, enable, language.toNat, volume.toNat, locks, source.toNat⟩ := rfl
    refine ha.message_does (k := .setSeat) (v := ⟨_, _, _⟩) rfl (by simp [fields]) ((judged_pass ?_).trans ?_)
    · have hpa : p = true → (first.val == 64) = true := fun hsel => by simp [(hsrc hsel).2]
      rw [hwords, h1, reservedCheck, seatReserved_check hstrict,
        show seatFieldsBad (decoderIdle s).prog.carousel _ _ = false from hbad _ hpa]
      simp [firstFailure_none_iff, lengthChecks, not_outside, hfirst, fields]
    · rw [hwords, h1]
      exact congrArg (Verdict.mk .accepted []) hafter

end Sys2Proof.Machine

/-! # Proofs: the route, scenes, patterns and cues as written (O44, O50) -/

namespace Sys2Proof.Machine

set_option Elab.async false

/-! ## Stops (R120 to R122) -/

theorem stopPayload_length (st : Stop) : (stopPayload st).length = 5 := rfl

theorem policyCode_le (q : RepeatPolicy) : policyCode q ≤ 3 := by cases q <;> decide

theorem policyOf_code (q : RepeatPolicy) : policyOf (policyCode q) = q := by cases q <;> rfl

/-- The fields of a stop's flags word (R121). -/
theorem flags_word {a b : Bool} {priority policy count n : Nat}
    (hn : bitNat a + bitNat b * 2 + priority * 4 + policy * 16 + count * 64 = n) (hpr : priority ≤ 2) (hpo : policy ≤ 3)
    (hc : count ≤ 7) :
    n < 512 ∧ (word n).getLsbD 0 = a ∧ (word n).getLsbD 1 = b ∧ bits (word n) 2 2 = priority ∧
      bits (word n) 4 2 = policy ∧ bits (word n) 6 3 = count := by
  have ha : bitNat a = if a then 1 else 0 := rfl
  have hb : bitNat b = if b then 1 else 0 := rfl
  have hlt : n < 512 := by rw [ha, hb] at hn; split at hn <;> split at hn <;> omega
  have hword : (word n).toNat = n := word_toNat (by omega)
  refine ⟨hlt, ?_, ?_, ?_, ?_, ?_⟩
  · rw [BitVec.getLsbD, hword, Nat.testBit_zero]
    cases a <;> simp only [decide_eq_true_eq, decide_eq_false_iff_not, ha, Bool.false_eq_true, if_false, if_true] at hn ⊢ <;> omega
  · rw [BitVec.getLsbD, hword, Nat.testBit_succ, Nat.testBit_zero]
    cases b <;> simp only [decide_eq_true_eq, decide_eq_false_iff_not, hb, Bool.false_eq_true, if_false, if_true] at hn ⊢ <;>
      rw [ha] at hn <;> split at hn <;> omega
  all_goals
    rw [bits, hword]
    rw [ha, hb] at hn
    split at hn <;> split at hn <;> omega

theorem above_of_lt {n k : Nat} {w : Nat} (hw : w < 65536) (h : w < 2 ^ (n + 1)) (hk : k = n) : above k (word w) = false := by
  subst hk
  exact above_eq_false (by rw [word_toNat hw]; exact h)

/-- The entry of a stop in Write Stops is read back as that stop, and no reserved bit is set (R121). -/
theorem stopAt_payload {l k x : Nat} {run : List Stop} {st : Stop} (hl : l ≤ 65535) (hk : run[k]? = some st)
    (hok : StopOk l st) :
    stopAt (payload (x :: run.length :: run.flatMap stopPayload)) k = st ∧
      above 8 (arg (payload (x :: run.length :: run.flatMap stopPayload)) (5 * k + 7)) = false := by
  obtain ⟨-, hnumber, hmetre, happroach, -, hradius, hpriority, hcount, hlap⟩ := hok
  have h0 := argN_entry stopPayload_length (x := x) (y := run.length) hk 0 rfl (by omega)
  have h1 := argN_entry stopPayload_length (x := x) (y := run.length) hk 1 rfl (by omega)
  have h2 := argN_entry stopPayload_length (x := x) (y := run.length) hk 2 rfl (by omega)
  have h3 := argN_entry stopPayload_length (x := x) (y := run.length) hk 3 rfl (by omega)
  have h4 := arg_entry stopPayload_length (x := x) (y := run.length) hk 4 rfl
  obtain ⟨hlt, ha, hb, hpr, hpo, hc⟩ := flags_word (a := st.approachFlag) (b := st.arrivalFlag) rfl hpriority
    (policyCode_le st.policy) hcount
  refine ⟨?_, ?_⟩
  · simp only [stopAt, Nat.reduceAdd] at h0 h1 h2 h3 h4 ⊢
    rw [h0, h1, h2, h3, h4, ha, hb, hpr, hpo, hc, policyOf_code, ← hlap]
  · rw [h4]
    exact above_of_lt (by omega) hlt rfl

theorem writtenStops_payload {l x : Nat} {run : List Stop} (hl : l ≤ 65535) (hlen : run.length ≤ 8)
    (hok : ∀ st ∈ run, StopOk l st) :
    writtenStops (payload (x :: run.length :: run.flatMap stopPayload)) = run := by
  rw [writtenStops, argN_payload_at rfl (by omega)]
  exact map_range_eq fun k st hk => (stopAt_payload hl hk (hok st (List.mem_of_getElem? hk))).1

theorem stopRangeBad_of_ok {l : Nat} {st : Stop} (h : StopOk l st) : stopRangeBad l st = false := by
  obtain ⟨h1, h2, h3, h4, h5, h6, h7, -, -⟩ := h
  simp [stopRangeBad, not_outside, h1, h2, h3, h4, h5, h6, h7]

/-- The run and its neighbours stand in order where the whole table does (R121). -/
theorem runMetres_sublist (first : Nat) (run stops : List Stop) :
    (runMetres first run stops).Sublist ((placeStops first run stops).map (·.metre)) := by
  refine List.Sublist.map _ (List.Sublist.append (List.Sublist.append ?_ (List.Sublist.refl run)) ?_)
  · cases h : (stops.take first).getLast? with
    | none => exact List.nil_sublist _
    | some a => exact List.singleton_sublist.mpr (List.mem_of_getLast? h)
  · cases h : (stops.drop (first + run.length)).head? with
    | none => exact List.nil_sublist _
    | some a => exact List.singleton_sublist.mpr (List.mem_of_mem_head? h)

/-- No entry of a stop waits where every entry is GENERAL. -/
theorem any_ofStop {q : List Entry} (h : ∀ e ∈ q, e.kind = .general) (n : Nat) : q.any (ofStop n) = false :=
  List.any_eq_false.mpr fun e he => by simp [ofStop, h e he]

theorem judgeWriteStops_run (strict : Bool) {first : Nat} {run : List Stop} {s : State} (hne : run ≠ [])
    (hlen : run.length ≤ 8) (hfirst : first ≤ s.route.stops.length) (hend : first + run.length ≤ 120)
    (hl : s.route.length ≤ 65535) (hok : ∀ st ∈ run, StopOk s.route.length st)
    (hgeneral : ∀ e ∈ s.ann.queue, e.kind = .general)
    (horder : ((placeStops first run s.route.stops).map (·.metre)).Pairwise (· < ·))
    (hnumbers : ((placeStops first run s.route.stops).map (·.number)).Nodup) :
    judgeWriteStops strict (payload (first :: run.length :: run.flatMap stopPayload)) s =
      ⟨.accepted, [], s.withRoute { s.route with stops := placeStops first run s.route.stops }⟩ := by
  have hwritten := writtenStops_payload (x := first) hl hlen hok
  have hsize := length_flatMap_entry stopPayload_length run
  have hpos : 0 < run.length := List.length_pos_iff.mpr hne
  have hreserved : ((List.range run.length).any fun k =>
      above 8 (arg (payload (first :: run.length :: run.flatMap stopPayload)) (5 * k + 7))) = false := by
    refine List.any_eq_false.mpr fun k hk => ?_
    have hlt : k < run.length := List.mem_range.mp hk
    have hget : run[k]? = some run[k] := List.getElem?_eq_getElem hlt
    simp [(stopAt_payload (x := first) hl hget (hok _ (List.getElem_mem _))).2]
  generalize hp : payload _ = p at hwritten hreserved ⊢
  have h1 : argN p 1 = first := hp ▸ argN_payload_at rfl (by omega)
  have h2 : argN p 2 = run.length := hp ▸ argN_payload_at rfl (by omega)
  have hplen : p.length = 2 + 5 * run.length := by
    rw [← hp, payload_length, List.length_cons, List.length_cons, hsize]; omega
  have hbad : run.any (stopRangeBad s.route.length) = false :=
    List.any_eq_false.mpr fun st hst => by simp [stopRangeBad_of_ok (hok st hst)]
  have hinUse : (((s.route.stops.drop first).take run.length).any fun st => s.ann.queue.any (ofStop st.number)) = false :=
    List.any_eq_false.mpr fun st _ => by simp [any_ofStop hgeneral]
  have hincreasing : increasing (runMetres first run s.route.stops) = true :=
    (increasing_iff _).mpr (List.isChain_iff_pairwise.mpr (horder.sublist (runMetres_sublist first run s.route.stops)))
  refine (judged_pass ?_).trans ?_
  · rw [h1, h2, hwritten, hreserved, hbad, hinUse, hincreasing, decide_eq_true hnumbers]
    simp [firstFailure_none_iff, countChecks, lengthChecks, reservedCheck, hplen, h2, hlen, Config.stopDepth,
      not_outside (Nat.zero_le _) (show first ≤ 119 by omega), hfirst]
    exact ⟨by omega, decide_eq_false (Nat.not_lt.mpr hend)⟩
  · rw [h1, hwritten]; rfl

theorem judgeSetRoute_fields (strict : Bool) {length tolerance halt : Nat} (loop : Bool) {s : State} (hl1 : 100 ≤ length)
    (hl2 : length ≤ 65535) (ht : tolerance ≤ 1000) (hh : halt ≤ 2500) (hidle : s.route.session = .idle)
    (hgeneral : ∀ e ∈ s.ann.queue, e.kind = .general) :
    judgeSetRoute strict (payload [length, bitNat loop, tolerance, halt]) s =
      ⟨.accepted, [], s.withRoute ⟨length, loop, tolerance, halt, 0, 0, 0, 0, .invalid, false, 0, [], .idle⟩⟩ := by
  generalize hp : payload _ = p
  have h1 : argN p 1 = length := hp ▸ argN_payload_at rfl (by omega)
  have h2 : arg p 2 = word (bitNat loop) := hp ▸ arg_payload rfl
  have h3 : argN p 3 = tolerance := hp ▸ argN_payload_at rfl (by omega)
  have h4 : argN p 4 = halt := hp ▸ argN_payload_at rfl (by omega)
  have hlen : p.length = 4 := hp ▸ rfl
  have hinUse : (s.ann.queue.any fun e => e.kind != .general) = false :=
    List.any_eq_false.mpr fun e he => by simp [hgeneral e he]
  refine (judged_pass ?_).trans ?_
  · rw [hinUse]
    simp [firstFailure_none_iff, lengthChecks, reservedCheck, hlen, h1, h2, h3, h4, not_outside, hl1, hl2, ht, hh, hidle]
  · rw [cleanRoute, h1, h2, h3, h4, hidle, word_bitNat_getLsbD]; rfl

/-- Settles O44. -/
theorem routeAndStopsAreWritten : Obligations.RouteAndStopsAreWritten := by
  intro h s ha
  refine ⟨?route, ?stops⟩
  case route =>
    intro length tolerance halt loop hl1 hl2 ht hh hidle hgeneral
    exact ha.message_does (k := .setRoute) (v := ⟨_, _, _⟩) rfl (by simp)
      (judgeSetRoute_fields _ loop hl1 hl2 ht hh hidle hgeneral)
  case stops =>
    intro first run hne hlen hfirst hend hl hok hgeneral stops horder hnumbers
    have hsize := length_flatMap_entry stopPayload_length run
    exact ha.message_does (k := .writeStops) (v := ⟨_, _, _⟩) rfl (by simp only [payload_length, List.length_cons]; omega)
      (judgeWriteStops_run (s := decoderIdle s) _ hne hlen hfirst hend hl hok hgeneral horder hnumbers)

/-! ## Scenes and patterns (R174, R175) -/

/-- The words of a scene item in Set Scene (R174). -/
def itemFields (it : SceneItem) : List Nat := [it.range.first.val + 256 * it.range.last.val, it.level, it.fade]

theorem itemFields_length (it : SceneItem) : (itemFields it).length = 3 := rfl

theorem rangeOf_word {r : ZoneRange} {n : Nat} (hn : r.first.val + 256 * r.last.val = n) :
    rangeOf (word n) = r ∧ rangeReserved (word n) = false := by
  have hfirst := r.first.isLt
  have hlast := r.last.isLt
  have hword : (word n).toNat = n := word_toNat (by omega)
  have h0 : bits (word n) 0 4 = r.first.val := by rw [bits, hword]; omega
  have h4 : bits (word n) 4 4 = 0 := by rw [bits, hword]; omega
  have h8 : bits (word n) 8 4 = r.last.val := by rw [bits, hword]; omega
  have h12 : bits (word n) 12 4 = 0 := by rw [bits, hword]; omega
  exact ⟨by simp [rangeOf, h0, h8], by simp [rangeReserved, h4, h12]⟩

theorem itemsOf_payload (x : Nat) {items : List SceneItem} (hlen : items.length ≤ 8)
    (hok : ∀ it ∈ items, it.level ≤ 1023 ∧ it.fade ≤ 10000) :
    itemsOf (payload (x :: items.length :: items.flatMap itemFields)) = items := by
  rw [itemsOf, argN_payload_at rfl (by omega)]
  refine map_range_eq fun k it hk => ?_
  obtain ⟨hlevel, hfade⟩ := hok it (List.mem_of_getElem? hk)
  have h0 := arg_entry itemFields_length (x := x) (y := items.length) hk 0 rfl
  have h1 := argN_entry itemFields_length (x := x) (y := items.length) hk 1 rfl (by omega)
  have h2 := argN_entry itemFields_length (x := x) (y := items.length) hk 2 rfl (by omega)
  rw [h0, h1, h2, (rangeOf_word rfl).1]

theorem judgeSetScene_items (strict : Bool) (n : Fin 16) {items : List SceneItem} (hlen : items.length ≤ 8)
    (hok : ∀ it ∈ items, it.level ≤ 1023 ∧ it.fade ≤ 10000) (s : State) :
    judgeSetScene strict (payload (n.val :: items.length :: items.flatMap itemFields)) s =
      ⟨.accepted, [], s.withLights { s.lights with scenes := setAt s.lights.scenes n items }⟩ := by
  have hitems := itemsOf_payload n.val hlen hok
  have hsize := length_flatMap_entry itemFields_length items
  have hreserved : ((List.range items.length).any fun k =>
      rangeReserved (arg (payload (n.val :: items.length :: items.flatMap itemFields)) (3 * k + 3))) = false := by
    refine List.any_eq_false.mpr fun k hk => ?_
    have hlt : k < items.length := List.mem_range.mp hk
    have hget : items[k]? = some items[k] := List.getElem?_eq_getElem hlt
    have h0 := arg_entry itemFields_length (x := n.val) (y := items.length) hget 0 rfl
    rw [h0, (rangeOf_word rfl).2]
    exact Bool.false_ne_true
  generalize hp : payload _ = p at hitems hreserved ⊢
  have h1 : argN p 1 = n.val := hp ▸ argN_payload_at rfl (by omega)
  have h2 : argN p 2 = items.length := hp ▸ argN_payload_at rfl (by omega)
  have hplen : p.length = 2 + 3 * items.length := by
    rw [← hp, payload_length, List.length_cons, List.length_cons, hsize]; omega
  have hbad : items.any itemRangeBad = false := List.any_eq_false.mpr fun it hit => by
    simp [itemRangeBad, not_outside, hok it hit]
  refine (judged_pass ?_).trans ?_
  · rw [h1, h2, hitems, hreserved, hbad]
    simp [firstFailure_none_iff, countChecks, lengthChecks, reservedCheck, hplen, h2, hlen,
      not_outside (Nat.zero_le _) (show n.val ≤ 15 by omega)]
    omega
  · rw [h1, hitems]; simp

theorem judgeSetPattern_fields (strict : Bool) (n : Fin 4) {q : Pattern} (h1 : 1 ≤ q.length) (h2 : q.length ≤ 64)
    (h3 : q.cycles ≤ 255) (s : State) :
    judgeSetPattern strict [word n.val, q.mask, word q.length, word q.cycles] s =
      ⟨.accepted, [], s.withLights { s.lights with patterns := setAt s.lights.patterns n (some q) }⟩ := by
  generalize hp : [word n.val, q.mask, word q.length, word q.cycles] = p
  have g1 : argN p 1 = n.val := hp ▸ word_toNat (by omega)
  have g2 : arg p 2 = q.mask := hp ▸ rfl
  have g3 : argN p 3 = q.length := hp ▸ word_toNat (by omega)
  have g4 : argN p 4 = q.cycles := hp ▸ word_toNat (by omega)
  have hlen : p.length = 4 := hp ▸ rfl
  refine (judged_pass ?_).trans ?_
  · simp [firstFailure_none_iff, lengthChecks, hlen, g1, g3, g4, not_outside, h1, h2, h3, show n.val ≤ 3 by omega]
  · rw [g1, g2, g3, g4]; simp

/-! ## Cues (R188) -/

theorem triggerOf_code (k : TriggerKind) : triggerOf (triggerCode k) = k := by cases k <;> rfl

theorem triggerCode_le (k : TriggerKind) : triggerCode k ≤ 9 := by cases k <;> decide

theorem paSourceOf_code (q : PaSource) : paSourceOf (paSourceCode q) = q := by cases q <;> rfl

theorem paSourceCode_le (q : PaSource) : paSourceCode q ≤ 2 := by cases q <;> decide

/-- A lawful parameter is in its range, and 0 where the trigger has none (R184, R188). -/
theorem param_ok {k : TriggerKind} {param : Nat} (h : param ≤ paramLimit k) :
    (paramTop (triggerCode k)).any (fun t => outside 0 t param) = false ∧
      (paramReserved (triggerCode k) = true → param = 0) := by
  cases k <;> simp [triggerCode, paramTop, paramReserved, paramLimit, outside] at h ⊢ <;> omega

/-- The words of an action stand from word 7 of a Set Cue on. -/
def SpellsAction (a : CueAction) (p : List Word) : Prop :=
  argN p 7 = (actionWords a).1 ∧ ∀ k < 4, arg p (k + 8) = (actionWords a).2.getD k 0

theorem SpellsAction.read {a : CueAction} {p : List Word} (h : SpellsAction a p) (hok : ActionOk a) :
    actionOf p = a ∧ actionReserved p = false ∧ actionRangeBad p = false := by
  obtain ⟨h7, hwords⟩ := h
  have g8 : arg p 8 = _ := hwords 0 (by omega)
  have g9 : arg p 9 = _ := hwords 1 (by omega)
  have g10 : arg p 10 = _ := hwords 2 (by omega)
  have g11 : arg p 11 = _ := hwords 3 (by omega)
  cases a with
  | scene n =>
    have h8 : argN p 8 = n.val := by rw [argN, g8]; exact word_toNat (by omega)
    simp [actionOf, actionReserved, actionRangeBad, h7, actionWords, h8, g9, g10, g11,
      not_outside (Nat.zero_le _) (show n.val ≤ 15 by omega)]
  | overlay r q on off =>
    obtain ⟨hon, hoff⟩ := hok
    have hr := rangeOf_word (r := r) (Nat.add_left_cancel_iff.mpr (Nat.mul_comm 256 _))
    have h9 : argN p 9 = q.val := by rw [argN, g9]; exact word_toNat (by omega)
    have h10 : argN p 10 = on := by rw [argN, g10]; exact word_toNat (by omega)
    have h11 : argN p 11 = off := by rw [argN, g11]; exact word_toNat (by omega)
    simp [actionOf, actionReserved, actionRangeBad, h7, actionWords, g8, h9, h10, h11, rangeWord, hr, not_outside, hon,
      hoff, show q.val ≤ 3 by omega]
  | clear r =>
    have hr := rangeOf_word (r := r) (Nat.add_left_cancel_iff.mpr (Nat.mul_comm 256 _))
    simp [actionOf, actionReserved, actionRangeBad, h7, actionWords, g8, g9, g10, g11, rangeWord, hr]
  | headsetCeiling k =>
    obtain ⟨hlow, hhigh⟩ := hok
    have h8 : argN p 8 = k := by rw [argN, g8]; exact word_toNat (by omega)
    simp [actionOf, actionReserved, actionRangeBad, h7, actionWords, h8, g9, g10, g11, not_outside, hlow, hhigh]
  | paCeiling k =>
    obtain ⟨hlow, hhigh⟩ := hok
    have h8 : argN p 8 = k := by rw [argN, g8]; exact word_toNat (by omega)
    simp [actionOf, actionReserved, actionRangeBad, h7, actionWords, h8, g9, g10, g11, not_outside, hlow, hhigh]
  | paSource q =>
    have hle := paSourceCode_le q
    have h8 : argN p 8 = paSourceCode q := by rw [argN, g8]; exact word_toNat (by omega)
    simp [actionOf, actionReserved, actionRangeBad, h7, actionWords, h8, g9, g10, g11, not_outside, hle, paSourceOf_code]
  | duckDepth d =>
    have hle : d ≤ 8 := hok
    have h8 : argN p 8 = d := by rw [argN, g8]; exact word_toNat (by omega)
    simp [actionOf, actionReserved, actionRangeBad, h7, actionWords, h8, g9, g10, g11, not_outside, hle]
  | announce phrase priority policy count =>
    obtain ⟨hp1, hp2, hpr, hc⟩ := hok
    have hpolicy := policyCode_le policy
    have h8 : argN p 8 = phrase := by rw [argN, g8]; exact word_toNat (by omega)
    have h9 : argN p 9 = priority := by rw [argN, g9]; exact word_toNat (by omega)
    have h10 : argN p 10 = policyCode policy := by rw [argN, g10]; exact word_toNat (by omega)
    have h11 : argN p 11 = count := by rw [argN, g11]; exact word_toNat (by omega)
    simp [actionOf, actionReserved, actionRangeBad, h7, actionWords, h8, h9, h10, h11, not_outside, hp1, hp2, hpr, hc,
      hpolicy, policyOf_code]

theorem actionWords_length (a : CueAction) : (actionWords a).2.length = 4 := by cases a <;> rfl

theorem actionWords_le (a : CueAction) : (actionWords a).1 ≤ 7 := by cases a <;> simp [actionWords]

/-- An ANNOUNCE action has action code 7, and no other has. -/
theorem actionWords_seven (a : CueAction) : ((actionWords a).1 == 7) = announces a := by cases a <;> rfl

theorem triggerCode_announce (k : TriggerKind) : (!outside 1 3 (triggerCode k)) = announceTrigger k := by cases k <;> rfl

theorem judgeSetCue_cue (strict : Bool) (i : Fin 32) {c : Cue} (hc : CueOk c) (s : State) :
    judgeSetCue strict (cuePayload i c) s =
      ⟨.accepted, [], s.withCues { s.cues with table := setAt s.cues.table i c }⟩ := by
  obtain ⟨hparam, hthreshold, haction, hloop⟩ := hc
  have hmask := c.mask.isLt
  have htrigger := triggerCode_le c.trigger
  have hcode := actionWords_le c.action
  have hlimit : paramLimit c.trigger ≤ 999 := by cases c.trigger <;> decide
  obtain ⟨hrange, hzero⟩ := param_ok hparam
  have hlen : (cuePayload i c).length = 11 := by simp [cuePayload, actionWords_length]
  have hspells : SpellsAction c.action (cuePayload i c) :=
    ⟨word_toNat (by omega), fun k _ => by simp [arg, cuePayload, payload]⟩
  obtain ⟨hact, hactReserved, hactRange⟩ := hspells.read haction
  have h7 : argN (cuePayload i c) 7 = (actionWords c.action).1 := hspells.1
  generalize hp : cuePayload i c = p at *
  have h1 : argN p 1 = i.val := hp ▸ word_toNat (by omega)
  have h2 : arg p 2 = word (bitNat c.enabled) := hp ▸ rfl
  have h3 : argN p 3 = triggerCode c.trigger := hp ▸ word_toNat (by omega)
  have h4 : argN p 4 = c.param := hp ▸ word_toNat (by omega)
  have h4' : arg p 4 = word c.param := hp ▸ rfl
  have h5 : arg p 5 = word c.mask.toNat := hp ▸ rfl
  have h6 : argN p 6 = c.threshold := hp ▸ word_toNat (by omega)
  refine (judged_pass ?_).trans ?_
  · have hbit : above 3 (word c.mask.toNat) = false := above_of_lt (by omega) hmask rfl
    have hparamReserved : (paramReserved (triggerCode c.trigger) && word c.param != 0) = false :=
      Bool.and_eq_false_imp.mpr fun hres => by simp [hzero hres, word]
    have hnoLoop : announceLoop p = false := by
      rw [announceLoop, h7, h3, actionWords_seven, triggerCode_announce]
      exact Bool.and_eq_false_imp.mpr hloop
    rw [h1, h2, h3, h4, h4', h5, h6, hbit, hparamReserved, hactReserved, hrange, hactRange, hnoLoop]
    simp [firstFailure_none_iff, lengthChecks, reservedCheck, hlen, not_outside, htrigger, hthreshold,
      show i.val ≤ 31 by omega]
  · have hsame : (if paramReserved (triggerCode c.trigger) then 0 else c.param) = c.param := by
      split
      next hres => exact (hzero hres).symm
      next => rfl
    have hmaskBack : (word c.mask.toNat).setWidth 4 = c.mask := by
      apply BitVec.eq_of_toNat_eq
      rw [BitVec.toNat_setWidth, word_toNat (by omega), Nat.mod_eq_of_lt hmask]
    rw [cueOf, h1, h2, h3, h4, h5, h6, hact, hsame, hmaskBack, triggerOf_code, word_bitNat_getLsbD]
    simp

/-- Settles O50. -/
theorem scenesPatternsAndCuesAreWrittenAsGiven : Obligations.ScenesPatternsAndCuesAreWrittenAsGiven := by
  intro h s ha
  refine ⟨fun n items hlen hok => ?scene, fun n q h1 h2 h3 => ?pattern, fun i c hc => ?cue⟩
  case scene =>
    have hsize := length_flatMap_entry itemFields_length items
    exact ha.message_does (k := .setScene) (v := ⟨_, _, _⟩) rfl
      (by rw [payload_length, List.length_cons, List.length_cons]; change (items.flatMap itemFields).length + 1 + 1 ≤ 64; omega)
      (judgeSetScene_items _ n hlen hok _)
  case pattern =>
    exact ha.message_does (k := .setPattern) (v := ⟨_, _, _⟩) rfl (by simp) (judgeSetPattern_fields _ n h1 h2 h3 _)
  case cue =>
    exact ha.message_does (k := .setCue) (v := ⟨_, _, _⟩) rfl (by simp [cuePayload, actionWords_length])
      (judgeSetCue_cue _ i hc _)

end Sys2Proof.Machine

/-! # Proofs: the read messages (O41) -/

namespace Sys2Proof.Machine

set_option Elab.async false

/-! ## A read message and its Reply (R29) -/

/-- A kind that is always answered queues its Reply. -/
theorem reply_always {h : MsgHead} {k : MsgKind} (hk : alwaysAnswered k = true) (r : Result) (d : List Word) (s : State) :
    reply h (kindCode k) r d s = offerReport (replyReport h (kindCode k) r d) s := by
  simp [reply, replyDue, hk]

theorem Addressed.read_does {h : MsgHead} {s : State} (ha : Addressed h s) {k : MsgKind} {p : List Word}
    (hk : mayComplete k = false) (halways : alwaysAnswered k = true) (hp : p.length ≤ 64) {data : List Word}
    (hv : judgeKind k (s.pins.profile == .strict) p (decoderIdle s) = ⟨.accepted, data, decoderIdle s⟩) :
    message k h p s =
      .next (offerReport ⟨0x3F#6, h.tag, word (kindCode k).toNat :: 0 :: data⟩ (decoderIdle s)) := by
  rw [ha.message_does hk hp hv, reply_always halways]
  rfl

/-- A read message without payload passes its checks. -/
theorem answered_nil (strict : Bool) (s : State) (d : List Word) :
    answered (lengthChecks strict 0 []) s d = ⟨.accepted, d, s⟩ :=
  answered_pass ((firstFailure_none_iff _).mpr (by simp [lengthChecks]))

/-! ## Digits of a word -/

/-- A number put together from digits gives each digit back. -/
theorem digits_sum {n base : Nat} (d : Fin n → Nat) (hd : ∀ k, d k < base) :
    ((List.finRange n).map fun k => d k * base ^ k.val).sum < base ^ n ∧
      ∀ k : Fin n, ((List.finRange n).map fun k => d k * base ^ k.val).sum / base ^ k.val % base = d k := by
  induction n with
  | zero => exact ⟨by simp, fun k => k.elim0⟩
  | succ n ih =>
    obtain ⟨hlt, hdigit⟩ := ih (fun k => d k.castSucc) fun k => hd _
    have hsum : ((List.finRange (n + 1)).map fun k => d k * base ^ k.val).sum =
        ((List.finRange n).map fun k => d k.castSucc * base ^ k.val).sum + base ^ n * d (Fin.last n) := by
      simp [List.finRange_succ_last, Function.comp_def, Nat.mul_comm]
    rw [hsum]
    generalize ((List.finRange n).map fun k => d k.castSucc * base ^ k.val).sum = m at *
    have hpos : 0 < base := Nat.lt_of_le_of_lt (Nat.zero_le _) (hd (Fin.last n))
    refine ⟨?_, fun k => ?_⟩
    · calc m + base ^ n * d (Fin.last n) < base ^ n + base ^ n * d (Fin.last n) := by omega
        _ = base ^ n * (d (Fin.last n) + 1) := by rw [Nat.mul_succ, Nat.add_comm]
        _ ≤ base ^ (n + 1) := by rw [Nat.pow_succ]; exact Nat.mul_le_mul_left _ (hd _)
    · cases k using Fin.lastCases with
      | last =>
        rw [Fin.val_last, Nat.add_mul_div_left _ _ (Nat.pow_pos hpos), Nat.div_eq_of_lt hlt, Nat.zero_add,
          Nat.mod_eq_of_lt (hd _)]
      | cast k =>
        have hsplit : base ^ n * d (Fin.last n) = base ^ k.val * (base * (base ^ (n - k.val - 1) * d (Fin.last n))) := by
          rw [← Nat.mul_assoc, ← Nat.mul_assoc, ← Nat.pow_succ, ← Nat.pow_add]
          congr 2
          omega
        rw [Fin.val_castSucc, hsplit, Nat.add_mul_div_left _ _ (Nat.pow_pos hpos), Nat.add_mul_mod_self_left]
        exact hdigit k

theorem bitNat_lt (b : Bool) : bitNat b < 2 := by cases b <;> decide

/-- A word put together from bits gives each bit back, and no other bit is set. -/
theorem bits_sum {n : Nat} (hn : n ≤ 16) (b : Fin n → Bool) (j : Nat) :
    (word ((List.finRange n).map fun k => bitNat (b k) * 2 ^ k.val).sum).getLsbD j = true ↔
      ∃ k : Fin n, k.val = j ∧ b k = true := by
  obtain ⟨hlt, hdigit⟩ := digits_sum (fun k => bitNat (b k)) fun k => bitNat_lt _
  have htop : 2 ^ n ≤ 65536 := Nat.pow_le_pow_right (by omega) hn
  rw [BitVec.getLsbD, word_toNat (by omega)]
  by_cases hj : j < n
  · have hbit := hdigit ⟨j, hj⟩
    rw [Nat.testBit_eq_decide_div_mod_eq, hbit]
    constructor
    · intro hset
      refine ⟨⟨j, hj⟩, rfl, ?_⟩
      revert hset
      cases b ⟨j, hj⟩ <;> simp [bitNat]
    · rintro ⟨k, rfl, hk⟩
      simp [hk, bitNat]
  · rw [Nat.testBit_eq_false_of_lt (Nat.lt_of_lt_of_le hlt (Nat.pow_le_pow_right (by omega) (Nat.le_of_not_lt hj)))]
    simp only [Bool.false_eq_true, false_iff, not_exists]
    rintro k ⟨rfl, -⟩
    exact hj k.isLt

/-- Two bits of a word put together from digits below 4. -/
theorem quarters_sum (d : Fin 8 → Nat) (hd : ∀ k, d k < 4) (b : Fin 8) :
    ((word ((List.finRange 8).map fun k => d k * 4 ^ k.val).sum).extractLsb' (2 * b.val) 2).toNat = d b := by
  obtain ⟨hlt, hdigit⟩ := digits_sum d hd
  rw [BitVec.extractLsb'_toNat, word_toNat hlt, Nat.shiftRight_eq_div_pow, Nat.pow_mul]
  exact hdigit b

/-! ## Read Lanes (R55) -/

theorem finRange_get {n : Nat} (i : Fin n) : (List.finRange n)[i.val]? = some i := by simp

theorem readLanesData_lane (s : State) (i : Fin 12) :
    (readLanesData s)[2 * i.val]? = some (word (laneKindCode s.prog.lanes[i].kind + s.prog.lanes[i].tag * 4
        + s.prog.lanes[i].silence * 256 + s.meter.lanes[i].level * 4096)) ∧
      (readLanesData s)[2 * i.val + 1]? =
        some (word (s.prog.lanes[i].trim + bitNat s.meter.lanes[i].quiet * 32768)) := by
  have hsize : ((List.finRange 12).flatMap fun i => laneWords s.prog.lanes[i] s.meter.lanes[i]).length = 24 :=
    length_flatMap_entry (m := 2) (fun _ => rfl) _
  have hentry (j : Nat) (hj : j < 2) :
      (readLanesData s)[2 * i.val + j]? = (laneWords s.prog.lanes[i] s.meter.lanes[i])[j]? := by
    rw [readLanesData, List.append_assoc, List.getElem?_append_left (by omega),
      getElem?_flatMap_entry (m := 2) (fun _ => rfl) _ hj, finRange_get]
    rfl
  exact ⟨hentry 0 (by omega), hentry 1 (by omega)⟩

theorem readLanesData_tail (s : State) (j : Nat) :
    (readLanesData s)[24 + j]? = ([word (heldMask s), word s.prog.carousel.length] ++ (List.range 6).map fun k =>
      word (s.prog.carousel.getD (2 * k) 0 + s.prog.carousel.getD (2 * k + 1) 0 * 256))[j]? := by
  have hsize : ((List.finRange 12).flatMap fun i => laneWords s.prog.lanes[i] s.meter.lanes[i]).length = 24 :=
    length_flatMap_entry (m := 2) (fun _ => rfl) _
  rw [readLanesData, List.append_assoc, List.getElem?_append_right (by omega), hsize, Nat.add_sub_cancel_left]

theorem heldMask_bit (s : State) (j : Nat) :
    (word (heldMask s)).getLsbD j = true ↔ ∃ i : Fin 12, i.val = j ∧ i ∈ heldLanes s := by
  have hsum : heldMask s = ((List.finRange 12).map fun i => bitNat ((heldLanes s).contains i) * 2 ^ i.val).sum := by
    refine congrArg List.sum (List.map_congr_left fun i _ => ?_)
    cases (heldLanes s).contains i <;> simp [bitNat]
  rw [hsum, bits_sum (by omega)]
  simp

/-! ## Read Line (R73) -/

theorem reachCode_lt (r : Reach) : reachCode r < 4 := by cases r <;> decide

theorem readLineData_jack (l : SeatLine) (k : Fin 16) :
    (readLineData l)[12 + k.val]? = some (word (classCode l.jacks[k].confirmed
      + classCode l.jacks[k].candidate * 4 + l.jacks[k].level * 256)) := by
  rw [readLineData, List.getElem?_append_right (by simp)]
  simp

/-! ## The next stop (R130) -/

theorem nextStopNumber_eq (r : Route) :
    nextStopNumber r = ((r.stops.find? fun x => (x.lap == .pending || x.lap == .approached) &&
      decide (r.estimate ≤ (x.metre + x.radius) * 100)).map (·.number)).getD 0 := by
  have hsame : (fun st => openStop st && !beyondWindow st r.estimate) = fun x : Stop =>
      (x.lap == .pending || x.lap == .approached) && decide (r.estimate ≤ (x.metre + x.radius) * 100) := by
    funext st
    simp [openStop, beyondWindow, ← decide_not]
  rw [nextStopNumber, nextStop, hsame]

/-! ## Read Queue (R161) -/

/-- The four Read Queue words of a place in the queue (R161). -/
def placeWords (s : State) (k : Nat) : List Word :=
  match s.ann.queue[k]? with
  | none => [0, 0, 0, 0]
  | some e => entryWords s.now e

theorem placeWords_length (s : State) (k : Nat) : (placeWords s k).length = 4 := by
  unfold placeWords; split <;> rfl

/-- The Read Queue word of a place in the active plan (R161). -/
def planWord (s : State) (k : Nat) : Word :=
  match (activePlan s)[k]? with
  | none => 0
  | some q => pairWord q

theorem readQueueData_eq (s : State) :
    readQueueData s = [word (s.ann.queue.length + s.ann.ticket * 256),
      word (bitNat s.ann.chime.isSome + ((s.ann.chime.map fun c => c.slot.val).getD 0) * 2)]
      ++ (List.range 6).flatMap (placeWords s) ++ (List.range 4).map (planWord s) := rfl

/-- The list from one of its entries on begins with that entry. -/
theorem drop_flatMap_entry {α β : Type} {f : α → List β} {m : Nat} (hf : ∀ a, (f a).length = m) (l : List α) (k : Nat) :
    (l.flatMap f).drop (m * k) = (l.drop k).flatMap f := by
  induction k generalizing l with
  | zero => simp
  | succ k ih =>
    cases l with
    | nil => simp
    | cons a l =>
      rw [List.flatMap_cons, List.drop_append, List.drop_eq_nil_of_le (by rw [hf, Nat.mul_succ]; omega), hf,
        show m * (k + 1) - m = m * k by rw [Nat.mul_succ]; omega, ih]
      rfl

theorem readQueueData_place (s : State) (k : Fin 6) :
    ((readQueueData s).drop (2 + 4 * k.val)).take 4 = placeWords s k.val := by
  have hsize : ((List.range 6).flatMap (placeWords s)).length = 24 := length_flatMap_entry (placeWords_length s) _
  have hhead : (List.range 6).drop k.val = k.val :: (List.range 6).drop (k.val + 1) := by
    rw [List.drop_eq_getElem_cons (by simp), List.getElem_range]
  rw [readQueueData_eq, List.append_assoc, ← List.drop_drop]
  change (((List.range 6).flatMap (placeWords s) ++ _).drop (4 * k.val)).take 4 = _
  rw [List.drop_append_of_le_length (by omega), drop_flatMap_entry (placeWords_length s), hhead, List.flatMap_cons,
    List.append_assoc, List.take_left' (placeWords_length s _)]

theorem readQueueData_plan (s : State) (k : Fin 4) : (readQueueData s)[26 + k.val]? = some (planWord s k.val) := by
  have hsize : ((List.range 6).flatMap (placeWords s)).length = 24 := length_flatMap_entry (placeWords_length s) _
  rw [readQueueData_eq, List.getElem?_append_right (by simp [hsize])]
  simp [hsize]

theorem readQueueData_length (s : State) : (readQueueData s).length = 30 := by
  have hsize : ((List.range 6).flatMap (placeWords s)).length = 24 := length_flatMap_entry (placeWords_length s) _
  simp [readQueueData_eq, hsize]

/-- The plan of the active entry, empty where there is none (R142). -/
theorem activePlan_eq (s : State) : activePlan s = ((activeEntry s).bind (·.plan)).getD [] := by
  unfold activePlan
  cases activeEntry s <;> rfl

/-! ## Read Zones (R178) -/

theorem zoneWord_eq (h : Health) (floor : Nat) (z : Zone) :
    zoneWord h floor z = word (z.current + (match z.overlay with
      | some v => 1024 + v.pattern.val * 2048
      | none => if z.current = targetOf h floor z.base then 0 else 8192)) := by
  rw [zoneWord, targetOf_eq]
  cases z.overlay with
  | some v => simp [bitNat, Nat.add_assoc]
  | none =>
    by_cases hat : z.current = floored h floor z.base
    · simp [bitNat, ← hat]
    · simp [bitNat, hat]

theorem readZonesData_zone (s : State) (i : Fin 16) :
    (readZonesData s)[i.val]? = some (zoneWord s.dog.health s.lights.floor s.lights.zones[i]) ∧
      (readZonesData s)[16 + i.val]? = some (word s.lights.zones[i].base) := by
  have hsecond : 16 + i.val < 32 := by omega
  refine ⟨?_, ?_⟩
  · rw [readZonesData, List.append_assoc, List.getElem?_append_left (by simp)]
    simp
  · rw [readZonesData, List.getElem?_append_left (by simp [hsecond]), List.getElem?_append_right (by simp)]
    simp

theorem readZonesData_tail (s : State) :
    (readZonesData s).drop 32 =
      [word ((s.lights.current.map Fin.val).getD 0 + bitNat s.lights.current.isSome * 16), word s.lights.floor,
        word s.lights.release,
        word ((List.finRange 4).map fun k => bitNat s.lights.patterns[k].isSome * 2 ^ k.val).sum,
        word ((List.finRange 16).map fun k => bitNat (!s.lights.scenes[k].isEmpty) * 2 ^ k.val).sum] := by
  rw [readZonesData, List.drop_left' (by simp)]

theorem readZonesData_length (s : State) : (readZonesData s).length = 37 := by simp [readZonesData]

/-! ## Read Status (R39) -/

/-- The words of Read Status (R39). -/
theorem readStatusData_eq (s : State) :
    readStatusData s = [
      word s.counters.badFrames, word s.counters.sequenceGaps, word s.counters.repeatSlips, word s.counters.dropSlips,
      word s.decoder.garbled, word s.reports.lost, word (lockCode s.trunk.rx.lock), word (healthCode s.dog.health),
      word (sessionCode s.route.session), word (positionCode s.route.status), word (s.route.estimate / 65536),
      word (s.route.estimate % 65536), word s.route.laps,
      word (((s.route.stops.find? fun x => (x.lap == .pending || x.lap == .approached) &&
        decide (s.route.estimate ≤ (x.metre + x.radius) * 100)).map (·.number)).getD 0),
      word (((activeEntry s).map (·.ticket)).getD 0),
      word s.mixer.audio.duckDepth, word s.mixer.audio.attack, word s.mixer.audio.release,
      word s.mixer.audio.headsetCeiling, word s.mixer.audio.paCeiling, word s.mixer.audio.announceFloor,
      word s.mixer.audio.defaultStep, word s.mixer.duck, if s.pins.profile = .strict then 0 else 1,
      word s.pins.unit.toNat] := by
  have hprofile : word (profileCode s.pins.profile) = if s.pins.profile = .strict then 0 else 1 := by
    cases s.pins.profile <;> rfl
  rw [readStatusData, nextStopNumber_eq, hprofile]
  rfl

theorem judgeReadStatus_keep (strict : Bool) (s : State) :
    judgeReadStatus strict [0#15 ++ 0#1] s = ⟨.accepted, readStatusData s, s⟩ := by
  cases strict <;> rfl

theorem judgeReadStatus_clear (strict : Bool) (s : State) :
    judgeReadStatus strict [0#15 ++ 1#1] s = ⟨.accepted, readStatusData s, clearCounters s⟩ := by
  cases strict <;> rfl

/-! ## The checks of the reads -/

theorem judgeReadSeat_payload (strict : Bool) (i : Fin 65) (s : State) :
    judgeReadSeat strict (payload [i.val]) s = ⟨.accepted, readSeatData i s, s⟩ := by
  have hi : argN (payload [i.val]) 1 = i.val := argN_payload (by omega)
  rw [judgeReadSeat, hi, answered_pass]
  · simp
  · simp [firstFailure_none_iff, lengthChecks, not_outside (Nat.zero_le _) (show i.val ≤ 64 by omega)]

theorem judgeReadStops_payload (strict : Bool) {first n : Nat} {s : State} (hend : first + n ≤ s.route.stops.length)
    (hn : n ≤ 7) (hfirst : first ≤ 120) :
    judgeReadStops strict (payload [first, n]) s =
      ⟨.accepted, [word s.route.stops.length, word (nextStopNumber s.route)]
        ++ ((s.route.stops.drop first).take n).flatMap stopWords, s⟩ := by
  have h1 : argN (payload [first, n]) 1 = first := argN_payload_at rfl (by omega)
  have h2 : argN (payload [first, n]) 2 = n := argN_payload_at rfl (by omega)
  rw [judgeReadStops, h1, h2, answered_pass]
  simp [firstFailure_none_iff, lengthChecks, not_outside, hn, hend]

theorem judgeReadCues_payload (strict : Bool) {first n : Nat} (hend : first + n ≤ 32) (hn : n ≤ 4) (hfirst : first ≤ 31)
    (s : State) :
    judgeReadCues strict (payload [first, n]) s =
      ⟨.accepted, ambientWords s.cues ++ ((s.cues.table.toList.drop first).take n).flatMap cueWords, s⟩ := by
  have h1 : argN (payload [first, n]) 1 = first := argN_payload_at rfl (by omega)
  have h2 : argN (payload [first, n]) 2 = n := argN_payload_at rfl (by omega)
  rw [judgeReadCues, h1, h2, answered_pass]
  simp [firstFailure_none_iff, lengthChecks, not_outside, hn, hfirst, hend]

theorem judgeReadNotices_payload (strict : Bool) {view : Nat} (hview : view ≤ 2) (s : State) :
    judgeReadNotices strict (payload [view]) s =
      ⟨.accepted, [word view, (noticeView s.notices view).setWidth 16], s⟩ := by
  have h1 : arg (payload [view]) 1 = word view := arg_payload rfl
  have hbits : bits (word view) 0 2 = view := by rw [bits, word_toNat (by omega)]; omega
  have habove : above 1 (word view) = false := above_of_lt (n := 1) (by omega) (by omega) rfl
  have hnot : (view == 3) = false := by simp; omega
  rw [judgeReadNotices, h1, hbits, answered_pass]
  simp [firstFailure_none_iff, lengthChecks, reservedCheck, habove, hnot]

theorem noticeView_eq (n : Notices) {view : Nat} (hview : view ≤ 2) :
    noticeView n view = if view = 0 then n.causes else if view = 1 then n.enables else n.causes &&& n.enables :=
  match view, hview with
  | 0, _ => rfl
  | 1, _ => rfl
  | 2, _ => rfl

/-- Settles O41: each read's verdict, and the words of its data by the lemmas of its table. -/
theorem readsAreAnsweredAndChangeNothing : Obligations.ReadsAreAnsweredAndChangeNothing := by
  intro h s ha reads next status
  have hstatus : readStatusData (decoderIdle s) = status := readStatusData_eq (decoderIdle s)
  refine ⟨?lanes, fun i => ?line, fun i => ?seat, fun first n hend hn hfirst => ?stops, ?queue, ?zones,
    fun first n hend hn hfirst => ?cues, fun view hview => ?notices, ?status, fun hroom => ?clear⟩
  case lanes =>
    refine ⟨readLanesData s, ?_, ha.read_does (k := .readLanes) rfl rfl (Nat.zero_le _) (answered_nil _ _ _),
      readLanesData_lane s, ⟨word (heldMask s), readLanesData_tail s 0, fun k => heldMask_bit s k.val⟩,
      readLanesData_tail s 1, fun k => ?_⟩
    · have hsize : ((List.finRange 12).flatMap fun i => laneWords s.prog.lanes[i] s.meter.lanes[i]).length = 24 :=
        length_flatMap_entry (m := 2) (fun _ => rfl) _
      rw [readLanesData, List.append_assoc, List.length_append, hsize]
      simp
    · have htail := readLanesData_tail s (2 + k.val)
      rw [← Nat.add_assoc] at htail
      rw [htail, List.getElem?_append_right (by simp)]
      simp
  case line =>
    refine ⟨readLineData s.lines[i], by simp [readLineData], exec_readLine ha i, rfl, ⟨_, rfl, fun b => ?_⟩, fun b => ?_,
      readLineData_jack _⟩
    · exact quarters_sum (fun b => reachCode s.lines[i].boxes[b].reach) (fun _ => reachCode_lt _) b
    · rw [Nat.add_comm]
      exact readLineData_runs _ b
  case seat =>
    refine ⟨readSeatData i s, rfl, ha.read_does (k := .readSeat) rfl rfl (by simp) (judgeReadSeat_payload _ i _), ?_⟩
    have hlast (n : Nat) : word (if i = paIndex then 0 else n) = if i = paIndex then 0 else word n := by split <;> rfl
    simp only [readSeatData, hlast]
    rfl
  case stops =>
    refine ⟨_, ?_, ha.read_does (k := .readStops) rfl rfl (by simp)
      (judgeReadStops_payload (s := decoderIdle s) _ hend hn hfirst), ?_⟩
    · rw [List.length_append, length_flatMap_entry (f := stopWords) (m := 5) (fun _ => rfl), List.length_take,
        List.length_drop, Nat.min_eq_left (show n ≤ (decoderIdle s).route.stops.length - first from by
          change n ≤ s.route.stops.length - first; omega)]
      rfl
    · rw [nextStopNumber_eq]
      rfl
  case queue =>
    refine ⟨readQueueData s, readQueueData_length s,
      ha.read_does (k := .readQueue) rfl rfl (Nat.zero_le _) (answered_nil _ _ _), ?_, fun k => ?_, fun k => ?_⟩
    · change [_, _] = _
      cases s.ann.chime <;> rfl
    · rw [readQueueData_place, placeWords]
      cases s.ann.queue[k.val]? with
      | none => rfl
      | some e => cases hn : e.notBefore <;> simp [entryWords, untilNotBefore, hn]
    · rw [readQueueData_plan, planWord, activePlan_eq]
      rfl
  case zones =>
    have htail (j : Nat) : (readZonesData s)[32 + j]? = ((readZonesData s).drop 32)[j]? := by rw [List.getElem?_drop]
    refine ⟨readZonesData s, readZonesData_length s,
      ha.read_does (k := .readZones) rfl rfl (Nat.zero_le _) (answered_nil _ _ _), fun i => ?_, ?_, ?_, ?_⟩
    · obtain ⟨hzone, hbase⟩ := readZonesData_zone s i
      exact ⟨hzone.trans (congrArg some (zoneWord_eq _ _ _)), hbase⟩
    · rw [readZonesData_tail]
      cases s.lights.current <;> simp [bitNat]
    · refine ⟨_, (htail 3).trans (by rw [readZonesData_tail]; rfl), fun k => ?_⟩
      rw [bits_sum (by omega)]
      simp [Option.isSome_iff_ne_none]
    · refine ⟨_, (htail 4).trans (by rw [readZonesData_tail]; rfl), fun k => ?_⟩
      rw [bits_sum (by omega)]
      constructor
      · rintro ⟨i, hi, hset⟩
        obtain rfl : i = k := Fin.ext hi
        simpa using hset
      · intro hset
        exact ⟨k, rfl, by simpa using hset⟩
  case cues =>
    refine ⟨_, ?_, ha.read_does (k := .readCues) rfl rfl (by simp) (judgeReadCues_payload _ hend hn hfirst _), rfl,
      ⟨_, rfl, fun k => ?_⟩, ?_⟩
    · rw [List.length_append, length_flatMap_entry (f := cueWords) (m := 7) (fun c => by simp [cueWords, actionWords_length]),
        List.length_take, List.length_drop, Vector.length_toList, Nat.min_eq_left (by omega)]
      rfl
    · rw [Bool.eq_iff_iff, bits_sum (by omega)]
      constructor
      · rintro ⟨i, hi, hset⟩
        obtain rfl : i = k := Fin.ext hi
        exact hset
      · exact fun hset => ⟨k, rfl, hset⟩
    · rfl
  case notices =>
    refine ⟨_, rfl, ha.read_does (k := .readNotices) rfl rfl (by simp) (judgeReadNotices_payload _ hview _), ?_⟩
    rw [noticeView_eq _ hview]
    rfl
  case status =>
    refine ⟨status, rfl, ?_, rfl⟩
    rw [← hstatus]
    exact ha.read_does (k := .readStatus) rfl rfl (by simp) (judgeReadStatus_keep _ _)
  case clear =>
    refine ⟨_, ?_, rfl⟩
    have hroom' : (clearCounters (decoderIdle s)).reports.queue.length < 16 := hroom
    refine (ha.message_does (k := .readStatus) rfl (by simp) (judgeReadStatus_clear _ _)).trans ?_
    rw [reply_always rfl, offerReport_room _ hroom', hstatus]
    rfl

end Sys2Proof.Machine

/-! # Proofs: keys and the replies of the boxes (O23, O24, O25, O27) -/

namespace Sys2Proof.Machine

set_option Elab.async false

/-! ## A delivery of keys (R79 to R83) -/

/-- A disabled seat discards the keys (R79). -/
theorem deliverKeys_disabled {i : Fin 65} {s : State} (h : s.seats.records[i].enabled = false) (k : Keys) :
    deliverKeys i k s = s := if_pos (congrArg (!·) h)

theorem deliverKeys_seats (i : Fin 65) (k : Keys) (s : State) :
    (deliverKeys i k s).seats =
      if s.seats.records[i].enabled then
        { s.seats with records := setAt s.seats.records i (pressKeys s.prog.carousel k s.seats.records[i]) }
      else s.seats := by
  have hoffer (r : Report) (u : State) : (offerReport r u).seats = u.seats := by
    have hframe := offerReport_frame r u
    unfold TouchesAnn at hframe
    rw [hframe]
  cases henabled : s.seats.records[i].enabled
  · rw [deliverKeys_disabled henabled]; simp
  · simp only [deliverKeys, henabled, Bool.not_true, Bool.false_eq_true, if_false, if_true]
    split
    · exact hoffer _ _
    · rfl

theorem deliverKeys_reports (i : Fin 65) (k : Keys) (s : State) :
    (deliverKeys i k s).reports =
      if s.seats.records[i].enabled = true ∧ k.call = true ∧ s.seats.records[i].holdoff = 0 then
        (offerReport (seatCall i) s).reports
      else s.reports := by
  cases henabled : s.seats.records[i].enabled
  · rw [deliverKeys_disabled henabled]; simp
  · simp only [deliverKeys, henabled, Bool.not_true, Bool.false_eq_true, if_false, true_and, Bool.and_eq_true,
      decide_eq_true_eq]
    split
    · exact offerReport_reports_congr _ rfl
    · rfl

theorem offerReport_causes {c : Cause} (hc : c ≠ .reportLost) (r : Report) (s : State) :
    (offerReport r s).notices.causes.getLsbD (causeBit c) = s.notices.causes.getLsbD (causeBit c) := by
  rcases offerReport_cases r s with ⟨-, h⟩ | ⟨-, h⟩ <;> rw [h]
  · rfl
  · rw [setCause_causes, beq_eq_false_iff_ne.mpr hc.symm, Bool.or_false]
    rfl

/-- A delivery sets no cause but REPORT_LOST. -/
theorem deliverKeys_causes {c : Cause} (hc : c ≠ .reportLost) (i : Fin 65) (k : Keys) (s : State) :
    (deliverKeys i k s).notices.causes.getLsbD (causeBit c) = s.notices.causes.getLsbD (causeBit c) := by
  unfold deliverKeys
  dsimp only
  split
  · rfl
  · split
    · exact offerReport_causes hc _ _
    · rfl

/-- What a delivery does to the seats and the reports hangs on the seats, the carousel and the reports alone. -/
theorem deliverKeys_congr (i : Fin 65) (k : Keys) {s t : State} (hseats : s.seats = t.seats) (hprog : s.prog = t.prog)
    (hreports : s.reports = t.reports) :
    (deliverKeys i k s).seats = (deliverKeys i k t).seats ∧ (deliverKeys i k s).reports = (deliverKeys i k t).reports := by
  rw [deliverKeys_seats, deliverKeys_seats, deliverKeys_reports, deliverKeys_reports,
    offerReport_reports_congr _ hreports, hseats, hprog, hreports]
  exact ⟨rfl, rfl⟩

theorem idxOf_of_getElem? {l : List Nat} (hl : l.Nodup) {j t : Nat} (h : l[j]? = some t) : l.idxOf t = j := by
  obtain ⟨hlt, rfl⟩ := List.getElem?_eq_some_iff.mp h
  exact hl.idxOf_getElem j hlt

/-- The language keys step through the carousel from the language's place (R81). -/
theorem stepLanguage_eq {carousel : List Nat} (hnodup : carousel.Nodup) {j l : Nat} (hj : carousel[j]? = some l) (k : Keys) :
    stepLanguage carousel k (some l) =
      if k.languageNext = true then carousel[(j + 1) % carousel.length]?
      else if k.languagePrev = true then carousel[(j + carousel.length - 1) % carousel.length]?
      else some l := by
  obtain ⟨hlt, -⟩ := List.getElem?_eq_some_iff.mp hj
  have hpos : 0 < carousel.length := Nat.zero_lt_of_lt hlt
  have hne : carousel.isEmpty = false := by cases carousel with | nil => exact absurd hpos (Nat.lt_irrefl 0) | cons => rfl
  have hplace (n d : Nat) : some (carousel.getD (n % carousel.length) d) = carousel[n % carousel.length]? := by
    rw [List.getD_eq_getElem _ _ (Nat.mod_lt _ hpos), List.getElem?_eq_getElem]
  simp only [stepLanguage, hne, Bool.false_eq_true, if_false, nextLanguage, prevLanguage, idxOf_of_getElem? hnodup hj,
    hplace]

/-- Settles O27. -/
theorem keysActOnTheirSeat : Obligations.KeysActOnTheirSeat := by
  intro i k s hstep hvolume hlanguage r t
  have hseats : t.seats = _ := deliverKeys_seats i k s
  have hreports : t.reports = _ := deliverKeys_reports i k s
  refine ⟨fun hoff => deliverKeys_disabled hoff k, fun hon => ?_⟩
  have henabled : s.seats.records[i].enabled = true := hon
  rw [if_pos henabled] at hseats
  have hrecord : t.seats.records[i] = pressKeys s.prog.carousel k r := by rw [hseats]; exact setAt_self _ i _
  refine ⟨?step, fun hlock => ?locked, fun j l hlock hnodup hj hl => ?language, fun hhold hcall => ?call,
    fun hquiet => ?quiet, ?record, fun j hj => ?others, ?frame⟩
  case step => rw [hrecord]; rfl
  case locked => rw [hrecord]; simp [pressKeys, hlock]
  case language =>
    rw [hrecord]
    simp only [pressKeys, hlock, Bool.false_eq_true, if_false, hl]
    exact stepLanguage_eq hnodup hj k
  case call =>
    refine ⟨?_, by rw [hreports, if_pos ⟨henabled, hcall, hhold⟩]; rfl⟩
    rw [hrecord]
    simp [pressKeys, hcall, hhold, Config.callHoldoff]
  case quiet =>
    have hnot : ¬(k.call = true ∧ r.holdoff = 0) := by
      rintro ⟨hcall, hhold⟩
      rcases hquiet with hq | hq
      · exact hq hhold
      · exact Bool.false_ne_true (hq.symm.trans hcall)
    refine ⟨?_, by rw [hreports, if_neg fun hall => hnot hall.2]⟩
    rw [hrecord]
    simp only [pressKeys, Bool.and_eq_true, decide_eq_true_eq, if_neg hnot]
  case record => rw [hrecord]; rfl
  case others => rw [hseats]; exact setAt_other _ i j _ (Ne.symm hj)
  case frame =>
    have hsource : t.seats = ⟨t.seats.records, s.seats.paSource⟩ := by rw [hseats]
    rw [← hsource]
    exact deliverKeys_frame i k s

/-! ## Replies (R60 to R66) -/

theorem exec_seatReplyWord {i : Fin 4} {w : Word} {s : State} (hs : s.pins.held = false) :
    exec (.seatReplyWord i w) s = .next (takeReplyWord i w s) := congrArg Host.Outcome.next (running_free hs)

/-- The fourth word of a valid reply is judged. -/
theorem takeReplyWord_valid {i : Fin 4} {box : Fin 8} {keys sense check : Word} {s : State}
    (hpoll : s.lines[i].poll = some ⟨box, [0x8000#16, keys, sense], false⟩) (hsum : keys + sense + check = 0) :
    takeReplyWord i check s = judgeValid i box [0x8000#16, keys, sense, check] s := by
  rw [takeReplyWord, hpoll]
  simp [validReply_of_sum hsum]

theorem takeReplyWord_kept {i : Fin 4} {w : Word} {s : State} {p : Poll} (hpoll : s.lines[i].poll = some p)
    (hp : p.words.length < 3) :
    takeReplyWord i w s = setLine i { s.lines[i] with poll := some { p with words := p.words ++ [w] } } s := by
  have hroom : ¬ 4 ≤ p.words.length := by omega
  have hshort : validReply (p.words ++ [w]) = false := by
    have hlen : ((p.words ++ [w]).length == 4) = false := by simp; omega
    rw [validReply, hlen]; rfl
  rw [takeReplyWord, hpoll]
  simp only [hroom, if_false, hshort, Bool.false_eq_true]

theorem sidePlace_ne (box : Fin 8) : sidePlace box false ≠ sidePlace box true := by revert box; decide

/-- The jacks of a line after a valid reply: each side's seat takes its reading (R65 to R67). -/
theorem lineValid_jack (box : Fin 8) (words : List Word) (l : SeatLine) (right : Bool) :
    (lineValid box words l).jacks[sidePlace box right] =
      takeReading l (jackChange (words.getD 1 0) right) (senseLevel (words.getD 2 0) right)
        l.jacks[sidePlace box right] := by
  cases right
  · exact (setAt_other _ _ _ _ (sidePlace_ne box).symm).trans (setAt_self _ _ _)
  · refine (setAt_self _ _ _).trans ?_
    exact congrArg _ (setAt_other _ _ _ _ (sidePlace_ne box))

theorem lineValid_jack_other (box : Fin 8) (words : List Word) (l : SeatLine) {k : Fin 16}
    (hleft : k ≠ sidePlace box false) (hright : k ≠ sidePlace box true) : (lineValid box words l).jacks[k] = l.jacks[k] :=
  (setAt_other _ _ _ _ hright.symm).trans (setAt_other _ _ _ _ hleft.symm)

theorem lineValid_box_other (box : Fin 8) (words : List Word) (l : SeatLine) {b : Fin 8} (hb : b ≠ box) :
    (lineValid box words l).boxes[b] = l.boxes[b] := setAt_other _ _ _ _ hb.symm

theorem senseLevel_left (w : Word) : senseLevel w false = w.toNat % 256 := by simp [senseLevel, bitNat]

theorem senseLevel_right (w : Word) : senseLevel w true = w.toNat / 256 := by
  have hw := w.isLt
  have hbyte : 2 ^ (8 * bitNat true) = 256 := rfl
  rw [senseLevel, hbyte]
  omega

/-- The keys of a valid reply are delivered to the left seat, then to the right one (R62). -/
theorem judgeValid_delivers (i : Fin 4) (box : Fin 8) (words : List Word) (s : State) :
    let pressed := deliverKeys (seatIndex i box true) (keysOf (words.getD 1 0) true)
      (deliverKeys (seatIndex i box false) (keysOf (words.getD 1 0) false) s)
    (judgeValid i box words s).seats = pressed.seats ∧ (judgeValid i box words s).reports = pressed.reports := by
  intro pressed
  have hcause (b : Bool) (c : Cause) (u : State) : (setCauseIf b c u).seats = u.seats ∧
      (setCauseIf b c u).prog = u.prog ∧ (setCauseIf b c u).reports = u.reports := by
    rw [setCauseIf_frame']; exact ⟨rfl, rfl, rfl⟩
  unfold judgeValid
  dsimp only
  generalize hs2 : setCauseIf (shorted _ _ _ _ || shorted _ _ _ _) _ _ = s2
  have hseats : s2.seats = s.seats := by rw [← hs2, (hcause _ _ _).1, (hcause _ _ _).1]; rfl
  have hprog : s2.prog = s.prog := by rw [← hs2, (hcause _ _ _).2.1, (hcause _ _ _).2.1]; rfl
  have hreports : s2.reports = s.reports := by rw [← hs2, (hcause _ _ _).2.2, (hcause _ _ _).2.2]; rfl
  obtain ⟨hleftSeats, hleftReports⟩ :=
    deliverKeys_congr (seatIndex i box false) (keysOf (words.getD 1 0) false) hseats hprog hreports
  have hleftProg : (deliverKeys (seatIndex i box false) (keysOf (words.getD 1 0) false) s2).prog =
      (deliverKeys (seatIndex i box false) (keysOf (words.getD 1 0) false) s).prog := by
    rw [deliverKeys_frame, deliverKeys_frame _ _ s]
    exact hprog
  exact deliverKeys_congr _ _ hleftSeats hleftProg hleftReports

/-- Settles O24. -/
theorem validReplyUpdatesItsBox : Obligations.ValidReplyUpdatesItsBox := by
  refine ⟨fun i w s hs => ⟨fun hpoll => ?closed, fun p hpoll hp => ?kept⟩, ?valid⟩
  case closed =>
    rw [exec_seatReplyWord hs, takeReplyWord, hpoll]
  case kept =>
    rw [exec_seatReplyWord hs, takeReplyWord_kept hpoll hp]
    rfl
  case valid =>
    intro i box keys sense check s hs hpoll hsum
    have hexec : exec (.seatReplyWord i check) s = .next (judgeValid i box [0x8000#16, keys, sense, check] s) := by
      rw [exec_seatReplyWord hs, takeReplyWord_valid hpoll hsum]
    have hlines := judgeValid_lines i box [0x8000#16, keys, sense, check] s
    have hpressed := judgeValid_delivers i box [0x8000#16, keys, sense, check] s
    generalize judgeValid i box [0x8000#16, keys, sense, check] s = t at *
    have hline : t.lines[i] = lineValid box [0x8000#16, keys, sense, check] s.lines[i] := by rw [hlines, setAt_self]
    have hbox : t.lines[i].boxes[box] = boxValid s.lines[i].boxes[box] := by rw [hline, lineValid_box]
    refine ⟨t, hexec, ?_, ?_, ?_, fun hreach => ?_, ?_, ?_, fun b hb => ?_, fun k hleft hright => ?_, fun j hj => ?_,
      hpressed⟩
    · rw [hline]; rfl
    · rw [hbox, boxValid_eq]
    · rw [hbox, boxValid_eq, satInc_eq_min]
    · rw [hbox, boxValid_eq]; exact if_neg fun h => hreach h.1
    · rw [hline, lineValid_jack, ← senseLevel_left]; rfl
    · rw [hline, lineValid_jack, ← senseLevel_right]; rfl
    · rw [hline, lineValid_box_other _ _ _ hb]
    · rw [hline, lineValid_jack_other _ _ _ hleft hright]
    · rw [hlines, setAt_other _ _ _ _ hj.symm]

/-! ## The class of a side (R65 to R67) -/

/-- A seat after a reading, in the words of R65 to R67. -/
theorem takeReading_eq (l : SeatLine) (change : Bool) (level : Nat) (j : SeatJack) {cls : JackClass}
    (hcls : readingClass l.openThreshold l.shortThreshold level = cls) {run : Nat}
    (hrun : (if change = true ∨ j.candidate ≠ some cls then 1 else satInc 255 j.run) = run) :
    takeReading l change level j =
      ⟨if l.debounce ≤ run ∧ j.confirmed ≠ some cls then some cls else j.confirmed, some cls, run, level⟩ := by
  have hcandidate : takeCandidate change cls level j = ⟨j.confirmed, some cls, run, level⟩ := by
    unfold takeCandidate
    rw [← hrun]
    by_cases hnew : change = true ∨ j.candidate ≠ some cls
    · rw [if_pos hnew, if_pos (by simpa using hnew)]
    · rw [if_neg hnew, if_neg (by simpa using hnew)]
      rw [not_or, not_not] at hnew
      rw [hnew.2]
  have hconfirms : confirms l.debounce ⟨j.confirmed, some cls, run, level⟩ = true ↔
      l.debounce ≤ run ∧ j.confirmed ≠ some cls := by
    rw [confirms, Bool.and_eq_true, decide_eq_true_eq, bne_iff_ne, ne_comm]
  rw [takeReading, hcls, hcandidate, confirmClass]
  by_cases hdue : l.debounce ≤ run ∧ j.confirmed ≠ some cls
  · rw [if_pos hdue, if_pos (hconfirms.mpr hdue)]
  · rw [if_neg hdue, if_neg (mt hconfirms.mp hdue)]

/-- The causes after a valid reply: JACK_FAULT where a side's seat has become SHORT, or before (R67). -/
theorem judgeValid_jackFault (i : Fin 4) (box : Fin 8) (words : List Word) (s : State) :
    (judgeValid i box words s).notices.causes.getLsbD 8 = true ↔
      s.notices.causes.getLsbD 8 = true ∨ ∃ right, shorted box right s.lines[i] (lineValid box words s.lines[i]) = true := by
  have hif (b : Bool) (u : State) : (setCauseIf b .jackFault u).notices.causes.getLsbD (causeBit .jackFault) =
      (u.notices.causes.getLsbD (causeBit .jackFault) || b) := by
    cases b
    · simp [setCauseIf]
    · rw [setCauseIf, if_pos rfl, setCause_causes]; rfl
  have hregained (b : Bool) (u : State) : (setCauseIf b .boxRegained u).notices.causes.getLsbD (causeBit .jackFault) =
      u.notices.causes.getLsbD (causeBit .jackFault) := by
    cases b
    · rfl
    · rw [setCauseIf, if_pos rfl, setCause_causes]; exact Bool.or_false _
  change (judgeValid i box words s).notices.causes.getLsbD (causeBit .jackFault) = true ↔ _
  unfold judgeValid
  dsimp only
  rw [deliverKeys_causes (by decide), deliverKeys_causes (by decide), hif, hregained]
  simp only [Bool.or_eq_true, Bool.exists_bool]
  rfl

/-- Settles O25. -/
theorem jackClassIsConfirmedAtTheDebounceCount : Obligations.JackClassIsConfirmedAtTheDebounceCount := by
  intro i box keys sense check s hs hpoll hsum line jack level cls run due
  have hexec : exec (.seatReplyWord i check) s = .next (judgeValid i box [0x8000#16, keys, sense, check] s) := by
    rw [exec_seatReplyWord hs, takeReplyWord_valid hpoll hsum]
  have hfault := judgeValid_jackFault i box [0x8000#16, keys, sense, check] s
  have hjack (right : Bool) : (lineValid box [0x8000#16, keys, sense, check] line).jacks[sidePlace box right] =
      ⟨if due right then some (cls right) else (jack right).confirmed, some (cls right), run right, level right⟩ := by
    rw [lineValid_jack]
    cases right
    · rw [senseLevel_left]; exact takeReading_eq line _ _ _ rfl rfl
    · rw [senseLevel_right]; exact takeReading_eq line _ _ _ rfl rfl
  have hlines := judgeValid_lines i box [0x8000#16, keys, sense, check] s
  have hstep : takeReplyWord i check s = judgeValid i box [0x8000#16, keys, sense, check] s := takeReplyWord_valid hpoll hsum
  generalize judgeValid i box [0x8000#16, keys, sense, check] s = t at *
  have hline : t.lines[i] = lineValid box [0x8000#16, keys, sense, check] line := by rw [hlines, setAt_self]
  refine ⟨t, hexec, fun ⟨right, hdue⟩ => ?confirmed, fun right => by rw [hline, hjack], ?fault⟩
  case confirmed =>
    have hevent : replyEvent i check s = t := (running_free hs).trans hstep
    refine (occurrence_due ?_ hs).trans (congrArg Host.Outcome.next hevent)
    rw [hevent]
    refine List.any_eq_true.mpr ⟨sidePlace box right, List.mem_finRange _, ?_⟩
    rw [hline, hjack, bne_iff_ne]
    simp only [if_pos hdue]
    exact hdue.2.symm
  case fault =>
    rw [hfault]
    refine or_congr_right (exists_congr fun right => ?_)
    have hbecomes : shorted box right line (lineValid box [0x8000#16, keys, sense, check] line) = true ↔
        (jack right).confirmed ≠ some .short ∧
          (if due right then some (cls right) else (jack right).confirmed) = some .short := by
      rw [shorted, becomesShort, hjack]
      simp [jack]
    refine hbecomes.trans ?_
    by_cases hdue : due right
    · rw [if_pos hdue]
      constructor
      · rintro ⟨-, hshort⟩
        exact ⟨hdue, Option.some.inj hshort⟩
      · rintro ⟨-, hshort⟩
        exact ⟨hshort ▸ hdue.2, congrArg some hshort⟩
    · rw [if_neg hdue]
      exact ⟨fun ⟨hne, heq⟩ => absurd heq hne, fun ⟨h, _⟩ => absurd h hdue⟩

/-! ## The reach of a box (R64) -/

theorem silenceCheck_keeps (s : State) : CausesKept s (silenceCheck s) := by
  refine .of_eq ?_
  unfold silenceCheck
  split
  · rfl
  · dsimp only
    split
    · split
      · rfl
      · split
        · split <;> rfl
        · rfl
    · rfl

theorem frameEvents_keeps (b : Bool) (s : State) : CausesKept s (frameEvents b s) := by
  have htrailing : CausesKept s (trailingEvent s) := by
    unfold trailingEvent; split
    · exact leaveTrailing_keeps s
    · exact .rfl s
  have hblock (u : State) : CausesKept u (meterBlock u) := by
    unfold meterBlock; split
    · exact .rfl u
    · exact (meter_keeps _ u).trans (silenceCheck_keeps _)
  have hchime (u : State) : CausesKept u (chimeEvent b u) := by
    unfold chimeEvent; split
    · exact chimeEnded_keeps u
    · exact .rfl u
  exact htrailing.trans ((hblock _).trans (hchime _))

theorem sendReturnIf_keeps (b : Bool) (s : State) : CausesKept s (sendReturnIf b s) := by
  refine .of_eq ?_
  unfold sendReturnIf; split
  · unfold sendReturnFrame; dsimp only; rw [replySlot_frame]; rfl
  · rfl

theorem storeTake_keeps (s : State) : CausesKept s (storeTake s).2 := by
  unfold storeTake; split
  case h_5 => exact (counters_keeps _ s).trans ((setCause_keeps _ _).trans (store_keeps _ _))
  all_goals exact store_keeps _ s

theorem closePolls_keeps (which : Vector Bool 4) (s : State) : CausesKept s (closePolls which s) :=
  (lines_keeps _ s).trans (setCauseIf_keeps _ _ _)

/-- A window that closes on a box it loses sets BOX_LOST (R64). -/
theorem closePolls_boxLost {which : Vector Bool 4} {s : State} {i : Fin 4} (hwhich : which[i] = true)
    (hloses : closeLoses s.lines[i] = true) : (closePolls which s).notices.causes.getLsbD 6 = true := by
  have hany : ((List.finRange 4).any fun i => which[i] && closeLoses s.lines[i]) = true :=
    List.any_eq_true.mpr ⟨i, List.mem_finRange i, by rw [hwhich, hloses]; rfl⟩
  unfold closePolls setCauseIf
  rw [if_pos hany]
  exact setCause_sets .boxLost _

theorem sendFrame_keeps (o : FrameOrder) (start : State) (f : LaneFrame) (s : State) :
    CausesKept (closePolls (mapTable (!·) o.pollsFirst) (chimeStep s)) (sendFrame o start f s) := .of_eq rfl

theorem prepared_notices (f : LaneFrame) (s : State) : (prepared f s).notices = s.notices := by
  simp [prepared, rampStep, crossfadeStep, meterSample]

/-- A window that closes on a box it loses sets BOX_LOST, whether it closes before the mix or after it (R64, R69). -/
theorem runFrame_boxLost {o : FrameOrder} {s : State} {i : Fin 4} (hloses : closeLoses s.lines[i] = true) :
    (runFrame o s).notices.causes.getLsbD 6 = true := by
  let u := closePolls o.pollsFirst s
  let v := prepared (storeTake u).1 (storeTake u).2
  let w := closePolls (mapTable (!·) o.pollsFirst) (chimeStep v)
  have huv : CausesKept u (chimeStep v) := (storeTake_keeps u).trans (.of_eq (by
    rw [chimeStep, State.withAnn_notices]; exact prepared_notices (storeTake u).1 (storeTake u).2))
  have hwt : CausesKept w (runFrame o s) :=
    (sendFrame_keeps o s (storeTake u).1 v).trans
      ((sendReturnIf_keeps _ _).trans ((frameEvents_keeps _ _).trans (sendReturnIf_keeps _ _)))
  refine hwt.1 6 ?_
  cases hfirst : o.pollsFirst[i] with
  | true => exact (closePolls_keeps _ _).1 6 (huv.1 6 (closePolls_boxLost hfirst hloses))
  | false =>
    have hline : (chimeStep v).lines[i] = s.lines[i] := by
      rw [chimeStep, State.withAnn_lines]
      change (prepared (storeTake u).1 (storeTake u).2).lines[i] = _
      rw [prepared_lines, storeTake_lines, closePolls_lines, hfirst]
      rfl
    exact closePolls_boxLost (by rw [mapTable_get, hfirst]; rfl) (by rw [hline]; exact hloses)

/-- The lines' seats stand in an output frame. -/
theorem lineClosed_jacks (l : SeatLine) : (lineClosed l).jacks = l.jacks := by unfold lineClosed; split <;> rfl

theorem lineSent_jacks (l : SeatLine) : (lineSent l).jacks = l.jacks := by unfold lineSent; split <;> rfl

/-- The box of an open window whose poll is not judged is missed (R61). -/
theorem missedBox_open {l : SeatLine} {p : Poll} (hpoll : l.poll = some p) (hp : p.judged = false) :
    missedBox l = some p.box := by simp [missedBox, hpoll, hp]

theorem lineClosed_box_other {l : SeatLine} {p : Poll} (hpoll : l.poll = some p) (hp : p.judged = false) {b : Fin 8}
    (hb : b ≠ p.box) : (lineClosed l).boxes[b] = l.boxes[b] := by
  rw [lineClosed, missedBox_open hpoll hp]
  exact setAt_other _ _ _ _ hb.symm

theorem reachMoves_of {line : Fin 4} {a b : Reach} {s t : State} (k : Fin 8) (ha : s.lines[line].boxes[k].reach = a)
    (hb : t.lines[line].boxes[k].reach = b) : reachMoves line a b s t = true :=
  List.any_eq_true.mpr ⟨k, List.mem_finRange k, by rw [ha, hb]; simp⟩

/-- Settles O23. -/
theorem boxIsLostAndRegained : Obligations.BoxIsLostAndRegained := by
  refine ⟨?lost, ?regained⟩
  case lost =>
    intro i o s p good hs hpoll hp hbox
    have hline : (outputFrame o s).lines[i] = lineSent (lineClosed s.lines[i]) := by
      rw [outputFrame_running hs, runFrame_lines]
    have hlost : (outputFrame o s).lines[i].boxes[p.box] = ⟨.lost, 16, 0⟩ := by
      rw [hline, lineSent_boxes, lineClosed_box hpoll hp, hbox]; rfl
    have hloses : closeLoses s.lines[i] = true := by
      rw [closeLoses, missedBox_open hpoll hp]
      dsimp only
      rw [hbox]; rfl
    have hcause : (outputFrame o s).notices.causes.getLsbD 6 = true := by
      rw [outputFrame_running hs]; exact runFrame_boxLost hloses
    refine ⟨outputFrame o s, occurrence_due (reachMoves_of p.box (by rw [hbox]) (by rw [hlost])) hs, hlost, hcause, ?_,
      fun b hb => ?_⟩
    · rw [hline, lineSent_jacks, lineClosed_jacks]
    · rw [hline, lineSent_boxes, lineClosed_box_other hpoll hp hb]
  case regained =>
    intro i box keys sense check s hs hpoll hsum hbox
    have hevent : replyEvent i check s = judgeValid i box [0x8000#16, keys, sense, check] s :=
      (running_free hs).trans (takeReplyWord_valid hpoll hsum)
    have hreached : (replyEvent i check s).lines[i].boxes[box] = ⟨.reachable, 0, 4⟩ := by
      rw [replyEvent_valid_line hs hpoll hsum, lineValid_box, hbox]; rfl
    refine ⟨replyEvent i check s, occurrence_due (reachMoves_of box (by rw [hbox]) (by rw [hreached])) hs, hreached, ?_⟩
    have hregains : regains s.lines[i].boxes[box] = true := by rw [hbox]; rfl
    rw [hevent]
    change (judgeValid i box _ s).notices.causes.getLsbD (causeBit .boxRegained) = true
    unfold judgeValid
    dsimp only
    rw [deliverKeys_causes (by decide), deliverKeys_causes (by decide), hregains]
    exact (setCauseIf_keeps _ _ _).1 _ (setCause_sets .boxRegained _)

end Sys2Proof.Machine

/-! # Proofs: lighting and the ambient light input (O30, O33) -/

namespace Sys2Proof.Machine

set_option Elab.async false

/-! ## The light tick (R171 to R173) -/

theorem exec_lightTick {s : State} (hs : s.pins.held = false) : exec .lightTick s = .next (lightTick s) :=
  congrArg Host.Outcome.next (running_free hs)

theorem lightTick_zone (s : State) (i : Fin 16) :
    (lightTick s).lights.zones[i] = zoneTick s.dog.health s.lights s.lights.zones[i] :=
  mapTable_get (zoneTick s.dog.health s.lights) s.lights.zones i

theorem lightFrame_length (zones : Vector Zone 16) : (lightFrame zones).length = 18 := by simp [lightFrame]

theorem lightFrame_checked (zones : Vector Zone 16) : Checked (lightFrame zones) := ⟨rfl, sumWords_checked _⟩

theorem lightFrame_level (zones : Vector Zone 16) (i : Fin 16) :
    (lightFrame zones)[i.val + 1]? = some (word zones[i].current) := by
  rw [lightFrame, List.cons_append, List.getElem?_cons_succ, List.getElem?_append_left (by simp)]
  simp

theorem zoneTick_bare {h : Health} {l : Lights} {z : Zone} (hz : z.overlay = none) :
    zoneTick h l z = { z with current := moveToward (targetOf h l.floor z.base) z.fadeStep z.fadeStep z.current } := by
  rw [zoneTick, hz, targetOf_eq]

theorem zoneTick_overlay {h : Health} {l : Lights} {z : Zone} {v : Overlay} {p : Pattern} (hz : z.overlay = some v)
    (hp : l.patterns[v.pattern] = some p) {shown : Nat}
    (hshown : targetOf h l.floor (if p.mask.getLsbD v.step = true then v.onLevel else v.offLevel) = shown) :
    zoneTick h l z =
      if v.tick + 1 < p.length then { z with current := shown, overlay := some { v with tick := v.tick + 1 } }
      else if v.step < 15 then { z with current := shown, overlay := some { v with tick := 0, step := v.step + 1 } }
      else if v.cycles = 1 then { z with
        current := shown, overlay := none, fadeStep := stepTo l.release (targetOf h l.floor z.base) shown }
      else { z with current := shown, overlay := some { v with tick := 0, step := 0, cycles := v.cycles - 1 } } := by
  rw [zoneTick, hz]
  simp only [overlayTick, hp, Option.getD_some, ← targetOf_eq, hshown]
  split
  · rfl
  · split
    · rfl
    · by_cases hzero : v.cycles = 0
      · have hone : v.cycles ≠ 1 := by omega
        rw [if_pos hzero, if_neg hone, hzero]
      · rw [if_neg hzero]
        split
        · rw [endOverlay, releaseZone, ← targetOf_eq]; rfl
        · rfl

/-- Settles O30. -/
theorem lightTickMovesZonesAndSendsAFrame : Obligations.LightTickMovesZonesAndSendsAFrame := by
  refine ⟨fun s hs => ?tick, ?overlay⟩
  case tick =>
    refine ⟨_, exec_lightTick hs, rfl, fun i hz => ?_, lightFrame_length _, lightFrame_checked _, fun i => ?_⟩
    · rw [lightTick_zone, zoneTick_bare hz]
    · exact lightFrame_level _ i
  intro s i v p hs hv hp shown
  refine ⟨fun hstays => ?stays, fun htick hstep hcycles => ?ends⟩
  case stays =>
    refine ⟨_, exec_lightTick hs, ?_⟩
    rw [lightTick_zone, zoneTick_overlay hv hp rfl]
    by_cases htick : v.tick + 1 < p.length
    · rw [if_pos htick, if_pos htick]
    · rw [if_neg htick, if_neg htick]
      by_cases hstep : v.step < 15
      · rw [if_pos hstep, if_pos hstep]
      · rw [if_neg hstep, if_neg hstep, if_neg ((hstays.resolve_left htick).resolve_left hstep)]
  case ends =>
    have hzone : (lightEvent s).lights.zones[i] = { s.lights.zones[i] with
        current := shown, overlay := none
        fadeStep := stepTo s.lights.release (targetOf s.dog.health s.lights.floor s.lights.zones[i].base) shown } := by
      rw [lightEvent, running_free hs, lightTick_zone, zoneTick_overlay hv hp rfl, if_neg (Nat.not_lt.mpr htick),
        if_neg (Nat.not_lt.mpr hstep), if_pos hcycles]
    exact ⟨_, occurrence_due (by rw [overlayEnds, hv, hzone]; rfl) hs, hzone⟩

/-! ## A scan of the cue table (R187) -/

/-- The cues that are enabled, in index order. -/
def enabledCues (s : State) : List (Fin 32) := (List.finRange 32).filter fun i => s.cues.table[i].enabled

theorem scanCue_disabled {t : Trigger} {acc : Raised} {i : Fin 32} (h : acc.1.cues.table[i].enabled = false) :
    scanCue t acc i = acc := by
  have hnot : matchesCue t acc.1.cues.table[i] = false := by rw [matchesCue, h]; rfl
  rw [scanCue]
  simp only [hnot, Bool.false_and, Bool.false_eq_true, if_false]

theorem TouchesEffects.cues {s t : State} (h : TouchesEffects s t) : t.cues = s.cues := by
  unfold TouchesEffects at h; rw [h]

/-- A scan acts through the enabled cues alone. -/
theorem scanOnce_enabled (t : Trigger) (s : State) : scanOnce t s = (enabledCues s).foldl (scanCue t) (s, []) := by
  have hfold : ∀ (l : List (Fin 32)) (acc : Raised), acc.1.cues = s.cues →
      l.foldl (scanCue t) acc = (l.filter fun i => s.cues.table[i].enabled).foldl (scanCue t) acc := by
    intro l
    induction l with
    | nil => exact fun _ _ => rfl
    | cons i l ih =>
      intro acc hcues
      cases hon : s.cues.table[i].enabled
      · rw [List.foldl_cons, scanCue_disabled (by rw [hcues]; exact hon), List.filter_cons_of_neg (by simp only [hon]; simp)]
        exact ih acc hcues
      · rw [List.foldl_cons, List.filter_cons_of_pos (by simp only [hon]), List.foldl_cons]
        exact ih _ ((scanCue_frame t acc i).cues.trans hcues)
  exact hfold _ (s, []) rfl

/-! ### No cue enabled -/

theorem enabledCues_quiet {s : State} (h : QuietCues s) : enabledCues s = [] :=
  List.filter_eq_nil_iff.mpr fun i _ => by rw [h i]; exact Bool.false_ne_true

theorem QuietCues.congr {s t : State} (hs : QuietCues s) (h : t.cues = s.cues) : QuietCues t := by
  intro i; rw [h]; exact hs i

theorem scanOnce_quiet {s : State} (h : QuietCues s) (t : Trigger) : scanOnce t s = (s, []) := by
  rw [scanOnce_enabled, enabledCues_quiet h]; rfl

/-- With no cue enabled a raised trigger does nothing (R187). -/
theorem raise_quiet {s : State} (h : QuietCues s) (t : Trigger) : raise t s = s := by
  rw [raise, scanOnce_quiet h]; rfl

/-! ### One cue enabled -/

theorem enabledCues_one {j : Fin 32} {k : TriggerKind} {param : Nat} {a : CueAction} {s : State} (h : OneCue j k param a s) :
    enabledCues s = [j] := by
  obtain ⟨hj, hothers⟩ := h
  have hon : s.cues.table[j].enabled = true := by rw [hj]
  have hsame : (fun i : Fin 32 => s.cues.table[i].enabled) = fun i => i == j := by
    funext i
    by_cases hij : i = j
    · rw [hij, hon, beq_self_eq_true]
    · rw [hothers i hij, beq_eq_false_iff_ne.mpr hij]
  rw [enabledCues, hsame]
  clear hj hothers hon hsame
  revert j
  decide

theorem OneCue.congr {j : Fin 32} {k : TriggerKind} {param : Nat} {a : CueAction} {s t : State} (hs : OneCue j k param a s)
    (h : t.cues = s.cues) : OneCue j k param a t := by
  unfold OneCue; rw [h]; exact hs

/-- A cue with every relation in its mask holds in any light (R185). -/
theorem conditionHolds_any (a : Ambient) (c : Cue) (h : c.mask = 0xF#4) : conditionHolds a c = true := by
  have hbit : relationBit a c.threshold < 4 := by unfold relationBit; repeat' split
                                                  all_goals decide
  rw [conditionHolds, h]
  generalize relationBit a c.threshold = n at hbit
  revert n
  decide

/-- The one enabled cue acts where the trigger is its own (R184, R186). -/
theorem scanOnce_one {j : Fin 32} {k : TriggerKind} {param : Nat} {a : CueAction} {s : State} (h : OneCue j k param a s)
    (t : Trigger) :
    scanOnce t s = if k = t.kind ∧ (isAny k param = true ∨ param = t.value) then doAction a s else (s, []) := by
  rw [scanOnce_enabled, enabledCues_one h]
  change scanCue t (s, []) j = _
  have hcue : s.cues.table[j] = ⟨true, k, param, 0xF#4, 0, a⟩ := h.1
  have hmatch : matchesCue t s.cues.table[j] = true ↔ k = t.kind ∧ (isAny k param = true ∨ param = t.value) := by
    simp [matchesCue, hcue]
  unfold scanCue
  dsimp only
  rw [conditionHolds_any _ _ (by rw [hcue]), Bool.and_true, hcue] 
  rw [hcue] at hmatch
  by_cases hown : k = t.kind ∧ (isAny k param = true ∨ param = t.value)
  · rw [if_pos (hmatch.mpr hown), if_pos hown]
    simp
  · rw [if_neg (mt hmatch.mp hown), if_neg hown]

theorem scanOnce_other {j : Fin 32} {k : TriggerKind} {param : Nat} {a : CueAction} {s : State} (h : OneCue j k param a s)
    {t : Trigger} (hk : k ≠ t.kind) : scanOnce t s = (s, []) := by
  rw [scanOnce_one h, if_neg fun hown => hk hown.1]

theorem raise_other {j : Fin 32} {k : TriggerKind} {param : Nat} {a : CueAction} {s : State} (h : OneCue j k param a s)
    {t : Trigger} (hk : k ≠ t.kind) : raise t s = s := by
  rw [raise, scanOnce_other h hk]; rfl

/-- A trigger of the one enabled cue: its action, then the scans of what the action raises (R186, R187). -/
theorem raise_one {j : Fin 32} {k : TriggerKind} {param : Nat} {a : CueAction} {s : State} (h : OneCue j k param a s)
    {t : Trigger} (hk : k = t.kind) (hparam : isAny k param = true ∨ param = t.value) :
    raise t s = (doAction a s).2.foldl (fun s' t' => (scanOnce t' s').1) (doAction a s).1 := by
  rw [raise, scanOnce_one h, if_pos ⟨hk, hparam⟩]

/-! ### The cue where no scan acts on it -/

/-- The cue of the front entry where the conditions of R140 hold, its trigger left unscanned. -/
def cueNext (s : State) : State :=
  match cueable s with
  | none => s
  | some e => (cueEntry e s).1

theorem cueNext_frame (s : State) : TouchesAnn s (cueNext s) := by
  unfold cueNext; split
  · exact .rfl s
  · exact cueEntry_frame _ s

theorem raiseAll_cueEntry (e : Entry) (s : State) :
    raiseAll (cueEntry e s) = raise ⟨.announceCued, entryKindCode e.kind⟩ (cueEntry e s).1 := by
  have hraised : (cueEntry e s).2 = [⟨.announceCued, entryKindCode e.kind⟩] := rfl
  rw [raiseAll, hraised, List.foldl_cons, List.foldl_nil]

/-- Where ANNOUNCE_CUED changes nothing, the conditions of R140 are examined and the cue alone follows. -/
theorem tryCue_unscanned {s : State} (h : ∀ (u : State) (n : Nat), u.cues = s.cues → raise ⟨.announceCued, n⟩ u = u) :
    tryCue s = cueNext s := by
  rw [tryCue, cueNext]
  cases cueable s with
  | none => rfl
  | some e => exact (raiseAll_cueEntry e s).trans (h _ _ (cueEntry_frame e s).effects.cues)

theorem tryCue_quiet {s : State} (h : QuietCues s) : tryCue s = cueNext s :=
  tryCue_unscanned fun _ _ hu => raise_quiet (h.congr hu) _

theorem tryCue_other {j : Fin 32} {k : TriggerKind} {param : Nat} {a : CueAction} {s : State} (h : OneCue j k param a s)
    (hk : k ≠ .announceCued) : tryCue s = cueNext s :=
  tryCue_unscanned fun _ _ hu => raise_other (h.congr hu) hk

/-! ## The ambient light input (R180 to R182) -/

theorem ambientSample_ambient (x : Nat) (s : State) :
    (ambientSample x s).cues = { s.cues with ambient := takeSample s.cues.ambient x } := by rw [ambientSample_frame]

theorem rail_iff (x : BitVec 8) : (x = 0#8 ∨ x = 255#8) ↔ (x.toNat = 0 ∨ 255 ≤ x.toNat) := by
  have hlt := x.isLt
  have hzero : x = 0#8 ↔ x.toNat = 0 := BitVec.toNat_eq
  have htop : x = 255#8 ↔ x.toNat = 255 := BitVec.toNat_eq
  rw [hzero, htop]
  omega

/-- An INVALID reading leaves all but the last reading and the invalid run, until the third in a row (R182). -/
theorem invalidSample_fields (a : Ambient) (x : Nat) :
    (invalidSample a x).last = x ∧ (invalidSample a x).smoothed = a.smoothed ∧
      (a.invalidRun ≤ 255 → (invalidSample a x).invalidRun = min 255 (a.invalidRun + 1)) ∧
      (a.invalidRun + 1 ≠ 3 → (invalidSample a x).candidate = a.candidate ∧ (invalidSample a x).run = a.run ∧
        (invalidSample a x).confirmed = a.confirmed) := by
  by_cases hthird : a.invalidRun + 1 = Config.invalidLimit
  · have hthree : a.invalidRun + 1 = 3 := hthird
    rw [invalidSample, if_pos hthird]
    exact ⟨rfl, rfl, fun _ => by dsimp only; omega, fun hne => absurd hthree hne⟩
  · rw [invalidSample, if_neg hthird]
    exact ⟨rfl, rfl, fun _ => satInc_eq_min _ _, fun _ => ⟨rfl, rfl, rfl⟩⟩

/-- The smoothed value is the manual's, and is not negative (R181). -/
theorem smooth_some {v : Nat} (hv : v ≤ 255) (x : Nat) : (smooth (some v) x : Int) = v + ((x : Int) - v + 4) / 8 := by
  rw [smooth]
  omega

/-- The state at which a change of the confirmed band is scanned. -/
theorem ambientSample_changed {x : Nat} {s : State} (h : (takeSample s.cues.ambient x).confirmed ≠ s.cues.ambient.confirmed) :
    ambientSample x s = tryCue (raise ⟨.ambientBand, bandCode (takeSample s.cues.ambient x).confirmed⟩
      (setCauseIf ((x == 0 || 255 ≤ x) && s.cues.ambient.invalidRun + 1 == Config.invalidLimit) .sensorInvalid
        (s.withCues { s.cues with ambient := takeSample s.cues.ambient x }))) := if_neg h

theorem setCauseIf_cues (b : Bool) (c : Cause) (s : State) : (setCauseIf b c s).cues = s.cues := by
  rw [setCauseIf_frame']

/-- With one cue enabled on the band now confirmed, its PA_SOURCE action is done (R184). -/
theorem ambientSample_paSource {x : Nat} {s : State} {j : Fin 32} {q : PaSource}
    (hchanged : (takeSample s.cues.ambient x).confirmed ≠ s.cues.ambient.confirmed)
    (hone : OneCue j .ambientBand (bandCode (takeSample s.cues.ambient x).confirmed) (.paSource q) s) :
    (ambientSample x s).seats.paSource = q := by
  rw [ambientSample_changed hchanged]
  generalize hu : setCauseIf _ _ _ = u
  have hone' : OneCue j .ambientBand (bandCode (takeSample s.cues.ambient x).confirmed) (.paSource q) u := by
    have hcues : u.cues.table = s.cues.table := by rw [← hu, setCauseIf_cues]; rfl
    unfold OneCue; rw [hcues]; exact hone
  rw [raise_one hone' rfl (.inr rfl)]
  change (tryCue (setPaSource q u)).seats.paSource = q
  have hframe := cueNext_frame (setPaSource q u)
  unfold TouchesAnn at hframe
  rw [tryCue_other (s := setPaSource q u) (hone'.congr rfl) (by decide), hframe]
  rfl

theorem ambientSample_keeps (x : Nat) (s : State) :
    CausesKept (setCauseIf ((x == 0 || 255 ≤ x) && s.cues.ambient.invalidRun + 1 == Config.invalidLimit) .sensorInvalid
      (s.withCues { s.cues with ambient := takeSample s.cues.ambient x })) (ambientSample x s) := by
  unfold ambientSample
  dsimp only
  split
  · exact .rfl _
  · exact (raise_keeps _ _).trans (tryCue_keeps _)

theorem exec_ambientSample {x : BitVec 8} {s : State} (hs : s.pins.held = false) :
    exec (.ambientSample x) s = .next (ambientSample x.toNat s) := congrArg Host.Outcome.next (running_free hs)

/-- Settles O33. -/
theorem ambientSampleIsSmoothedAndJudged : Obligations.AmbientSampleIsSmoothedAndJudged := by
  refine ⟨?sample, ?confirmed, ?invalid⟩
  case sample =>
    intro x s hs a rail
    have hcues := ambientSample_ambient x.toNat s
    have hpa (j : Fin 32) (q : PaSource) := ambientSample_paSource (x := x.toNat) (s := s) (j := j) (q := q)
    refine ⟨_, exec_ambientSample hs, by rw [hcues], ?_⟩
    rw [hcues]
    have hlast : (takeSample a x.toNat).last = x.toNat := by
      unfold takeSample; split
      · exact (invalidSample_fields a _).1
      · rfl
    refine ⟨hlast, fun hrail => ?_, fun hvalid => ?_, fun j q hchanged hone => hpa j q hchanged hone⟩
    · have htake : takeSample a x.toNat = invalidSample a x.toNat := if_pos ((rail_iff x).mp hrail)
      rw [htake]
      exact (invalidSample_fields a _).2
    · have htake : takeSample a x.toNat = validSample a x.toNat := if_neg (mt (rail_iff x).mpr hvalid)
      rw [htake]
      refine ⟨rfl, fun hnone => ?_, fun v hv hle => ⟨_, ?_, smooth_some hle _⟩, rfl, ?_, rfl⟩
      · simp [validSample, hnone, smooth]
      · simp [validSample, hv]
      · simp [validSample, eq_comm]
  case confirmed =>
    intro x s b hs hlow hhigh hband hcandidate hother hrun hdwell
    have hvalid : ¬(x.toNat = 0 ∨ 255 ≤ x.toNat) := mt (rail_iff x).mpr fun h => h.elim hlow hhigh
    have htake : takeSample s.cues.ambient x.toNat = validSample s.cues.ambient x.toNat := if_neg hvalid
    have hrun' : (validSample s.cues.ambient x.toNat).run = s.cues.ambient.run + 1 := by
      simp [validSample, hband, hcandidate, satInc, hrun]
    have hconfirmed : (validSample s.cues.ambient x.toNat).confirmed = some b := by
      simp [validSample, hband, hcandidate, satInc, hrun, hdwell]
    have hevent : ambientEvent x s = ambientSample x.toNat s := running_free hs
    have hcues : (ambientEvent x s).cues.ambient = validSample s.cues.ambient x.toNat := by
      rw [hevent, ambientSample_ambient, htake]
    refine ⟨_, occurrence_due ?_ hs, by rw [hcues, hconfirmed], by rw [hcues, hrun']⟩
    rw [bandConfirms, hcues, hconfirmed]
    simpa using hother.symm
  case invalid =>
    intro x s hs hrail hrun
    have htake : takeSample s.cues.ambient x.toNat = { s.cues.ambient with
        last := x.toNat, invalidRun := 3, candidate := none, run := 0, confirmed := none } := by
      have hthird : s.cues.ambient.invalidRun + 1 = Config.invalidLimit := by rw [hrun]; rfl
      rw [takeSample, if_pos ((rail_iff x).mp hrail), invalidSample, if_pos hthird, hrun]
    have hevent : ambientEvent x s = ambientSample x.toNat s := running_free hs
    have hcues : (ambientEvent x s).cues.ambient = takeSample s.cues.ambient x.toNat := by
      rw [hevent, ambientSample_ambient]
    rw [htake] at hcues
    refine ⟨_, occurrence_due (by rw [sensorFails, hcues, hrun]; rfl) hs, ?_, hcues⟩
    rw [hevent]
    refine (ambientSample_keeps x.toNat s).1 9 ?_
    have hdue : ((x.toNat == 0 || decide (255 ≤ x.toNat)) && s.cues.ambient.invalidRun + 1 == Config.invalidLimit) = true := by
      have hx := (rail_iff x).mp hrail
      rw [hrun]
      exact Bool.and_eq_true_iff.mpr ⟨by simpa using hx, rfl⟩
    rw [setCauseIf, if_pos hdue]
    exact setCause_sets .sensorInvalid _

end Sys2Proof.Machine

/-! # Proofs: the stops and the route tick (O31, O32) -/

namespace Sys2Proof.Machine

set_option Elab.async false

/-! ## One stop (R124 to R128) -/

/-- The state without the WAITING entries of a stop whose kind is chosen. -/
def withoutEntries (number : Nat) (k : EntryKind → Bool) (s : State) : State := s.withAnn { s.ann with
  queue := s.ann.queue.filter fun f => !(f.state == .waiting && k f.kind && f.subject == number) }

theorem removeWaiting_ofStop (number : Nat) (s : State) :
    removeWaiting (ofStop number) s = withoutEntries number (· != .general) s := by
  simp only [removeWaiting, setQueue, withoutEntries, isWaiting, ofStop, Bool.and_assoc]

theorem removeWaiting_hasKey (k : EntryKind) (number : Nat) (s : State) :
    removeWaiting (hasKey k number) s = withoutEntries number (· == k) s := by
  simp only [removeWaiting, setQueue, withoutEntries, isWaiting, hasKey, Bool.and_assoc]

theorem setLap_eq {i : Nat} {st : Stop} {s : State} (h : s.route.stops[i]? = some st) (l : LapState) :
    setLap i l s = s.withRoute { s.route with stops := s.route.stops.set i { st with lap := l } } := by
  rw [setLap, h]; rfl

theorem openStop_iff (st : Stop) : openStop st = true ↔ st.lap = .pending ∨ st.lap = .approached := by
  simp [openStop]

theorem beyondWindow_iff (st : Stop) (e : Nat) : beyondWindow st e = true ↔ (st.metre + st.radius) * 100 < e := by
  simp [beyondWindow]

theorem inArrival_iff (st : Stop) (e : Nat) :
    inArrival st e = true ↔ st.metre * 100 ≤ e + st.radius * 100 ∧ e ≤ (st.metre + st.radius) * 100 := by
  simp [inArrival]

theorem inApproach_iff (st : Stop) (e : Nat) :
    inApproach st e = true ↔ st.metre * 100 ≤ e + st.approach * 100 ∧ e + st.radius * 100 < st.metre * 100 := by
  simp [inApproach]

/-- The checks of one stop, each with its effect. -/
theorem evaluateStop_eq {s : State} {i : Nat} {st : Stop} (h : s.route.stops[i]? = some st) :
    evaluateStop s i =
      if (st.lap = .pending ∨ st.lap = .approached) ∧ (st.metre + st.radius) * 100 < s.route.estimate then passStop i st s
      else if (st.lap = .pending ∨ st.lap = .approached) ∧ st.metre * 100 ≤ s.route.estimate + st.radius * 100 ∧
        s.route.estimate ≤ (st.metre + st.radius) * 100 ∧ s.route.speed ≤ s.route.haltSpeed then arriveStop i st s
      else if st.lap = .pending ∧ st.metre * 100 ≤ s.route.estimate + st.approach * 100 ∧
        s.route.estimate + st.radius * 100 < st.metre * 100 then approachStop i st s
      else if st.lap = .arrived ∧ (st.metre + st.radius) * 100 < s.route.estimate then
        removeWaiting (hasKey .arrival st.number) s
      else s := by
  rw [evaluateStop, h]
  simp only [Bool.and_eq_true, openStop_iff, beyondWindow_iff, inArrival_iff, inApproach_iff, decide_eq_true_eq,
    beq_iff_eq, and_assoc]

/-- Settles O32: the checks exclude each other, so the order of `evaluateStop_eq` is no matter. -/
theorem stopIsPassedArrivedOrApproached : Obligations.StopIsPassedArrivedOrApproached := by
  intro s i st hst e marked without offers event pass arrive approach leave
  have heval := evaluateStop_eq hst
  have hmarked (l : LapState) : setLap i l s = marked l := setLap_eq hst l
  refine ⟨fun hpass => ?pass, fun harrive => ?arrive, fun happroach => ?approach, fun hleave => ?leave,
    fun hpass harrive happroach hleave => ?none⟩
  case pass =>
    rw [heval, if_pos hpass, passStop, hmarked, removeWaiting_ofStop]; rfl
  case arrive =>
    have hnot : ¬ pass := fun hpass => Nat.not_lt.mpr harrive.2.2.1 hpass.2
    rw [heval, if_neg hnot, if_pos harrive, arriveStop, hmarked, removeWaiting_hasKey]; rfl
  case approach =>
    obtain ⟨hpending, hnear, hbefore⟩ := happroach
    have hpass : ¬ pass := fun hpass => by have := hpass.2; omega
    have harrive : ¬ arrive := fun harrive => by have := harrive.2.1; omega
    rw [heval, if_neg hpass, if_neg harrive, if_pos ⟨hpending, hnear, hbefore⟩, approachStop, hmarked]; rfl
  case leave =>
    obtain ⟨harrived, hbeyond⟩ := hleave
    have hshut : ¬ (st.lap = .pending ∨ st.lap = .approached) := by rw [harrived]; decide
    have happroach : ¬ approach := fun happroach => hshut (.inl happroach.1)
    rw [heval, if_neg fun hpass => hshut hpass.1, if_neg fun harrive => hshut harrive.1, if_neg happroach,
      if_pos ⟨harrived, hbeyond⟩, removeWaiting_hasKey]
    rfl
  case none =>
    rw [heval, if_neg hpass, if_neg harrive, if_neg happroach, if_neg hleave]

/-! ## The route tick (R117, R118) -/

theorem trusted_iff (r : Route) : trusted r = true ↔ r.status = .fresh ∨ r.status = .deadReckoned := by
  simp [trusted]

theorem reckon_eq (r : Route) :
    reckon r = { r with
      age := r.age + 1
      remainder := if r.age < 150 then (r.speed + r.remainder) % 50 else r.remainder
      estimate := if r.age < 150 then r.estimate + (r.speed + r.remainder) / 50 else r.estimate } := by
  by_cases hage : r.age < 150
  · have hmoves : r.age + 1 ≤ Config.trustedAges := hage
    rw [reckon, if_pos hmoves, if_pos hage, if_pos hage]
  · have hstands : ¬ r.age + 1 ≤ Config.trustedAges := hage
    rw [reckon, if_neg hstands, if_neg hage, if_neg hage]

/-- The stops all return to PENDING, and the WAITING entries of stops in the table go (R116, R117, R129). -/
theorem lapWrap_eq (s : State) :
    lapWrap s = { s with
      route := { s.route with
        laps := satInc 65535 s.route.laps, stops := s.route.stops.map fun st => { st with lap := .pending } }
      ann := { s.ann with queue := s.ann.queue.filter fun e =>
        !(e.state == .waiting && e.kind != .general && (s.route.stops.map (·.number)).contains e.subject) } } := by
  simp [lapWrap, returnToPending, removeWaiting, setQueue, setRoute, State.withAnn, State.withRoute, isWaiting,
    Bool.and_assoc]

theorem boundEstimate_eq (s : State) :
    let r := s.route
    let wraps : Bool := r.loop && decide (r.length * 100 ≤ r.estimate)
    boundEstimate s = { s with
      route := { r with
        estimate := if wraps = true then r.estimate - r.length * 100
          else if r.loop = true then r.estimate else min (r.length * 100) r.estimate
        laps := if wraps = true then satInc 65535 r.laps else r.laps
        stops := if wraps = true then r.stops.map fun st => { st with lap := .pending } else r.stops }
      ann := { s.ann with queue := if wraps = true then
          s.ann.queue.filter fun e =>
            !(e.state == .waiting && e.kind != .general && (r.stops.map (·.number)).contains e.subject)
        else s.ann.queue } } := by
  intro r wraps
  cases hloop : r.loop with
  | true =>
    by_cases hend : r.length * 100 ≤ r.estimate
    · have hwraps : wraps = true := by simp [wraps, hloop, hend]
      rw [boundEstimate]
      simp only [hwraps, if_true]
      rw [if_pos hwraps, lapWrap_eq]
      simp [setRoute, State.withRoute, r, hloop]
    · have hwraps : wraps = false := by simp [wraps, hloop, hend]
      rw [boundEstimate]
      have hline : (!r.loop && decide (r.length * 100 < r.estimate)) = false := by rw [hloop]; rfl
      rw [if_neg (by rw [show (s.route.loop && _) = wraps from rfl, hwraps]; simp), if_neg (by rw [hline]; simp)]
      simp only [hwraps, Bool.false_eq_true, if_false, if_true]
      rw [← hloop]
  | false =>
    have hwraps : wraps = false := by simp [wraps, hloop]
    rw [boundEstimate]
    rw [if_neg (by rw [show (s.route.loop && _) = wraps from rfl, hwraps]; simp)]
    simp only [hwraps, Bool.false_eq_true, if_false]
    have hloop' : s.route.loop = false := hloop
    by_cases hlong : r.length * 100 < r.estimate
    · have hbound : (!s.route.loop && decide (s.route.length * 100 < s.route.estimate)) = true := by
        rw [hloop']; simpa using hlong
      rw [if_pos hbound, Nat.min_eq_left (Nat.le_of_lt hlong), setRoute, State.withRoute, ← hloop]
    · have hbound : (!s.route.loop && decide (s.route.length * 100 < s.route.estimate)) = false := by
        rw [hloop']; simpa using hlong
      rw [if_neg (by rw [hbound]; exact Bool.false_ne_true), Nat.min_eq_right (Nat.le_of_not_lt hlong), ← hloop]

/-- The state at a route tick while the position is trusted, before the stops are evaluated (R117, R118). -/
def reckoned (s : State) : State :=
  let r := s.route
  let moved := if r.age < 150 then r.estimate + (r.speed + r.remainder) / 50 else r.estimate
  let wraps : Bool := r.loop && decide (r.length * 100 ≤ moved)
  { s with
    route := { r with
      age := r.age + 1
      remainder := if r.age < 150 then (r.speed + r.remainder) % 50 else r.remainder
      estimate := if wraps = true then moved - r.length * 100
        else if r.loop = true then moved else min (r.length * 100) moved
      status := if r.age < 50 then .fresh else if r.age < 150 then .deadReckoned else .stale
      laps := if wraps = true then satInc 65535 r.laps else r.laps
      stops := if wraps = true then r.stops.map fun st => { st with lap := .pending } else r.stops }
    ann := { s.ann with queue := if wraps = true then
        s.ann.queue.filter fun e =>
          !(e.state == .waiting && e.kind != .general && (r.stops.map (·.number)).contains e.subject)
      else s.ann.queue }
    notices := if r.age < 150 then s.notices else ⟨s.notices.causes ||| 0x400#12, s.notices.enables⟩ }

theorem statusOfAge_succ (n : Nat) :
    statusOfAge (n + 1) = if n < 50 then .fresh else if n < 150 then .deadReckoned else .stale := rfl

theorem reckoned_trusted (s : State) : trusted (reckoned s).route = true ↔ s.route.age < 150 := by
  rw [trusted_iff]
  simp only [reckoned]
  by_cases hyoung : s.route.age < 50
  · simp [hyoung]; omega
  · by_cases hold : s.route.age < 150 <;> simp [hyoung, hold]

theorem evaluateStops_eq (s : State) :
    evaluateStops s = if s.route.session = .running ∧ trusted s.route = true then evaluated s else s := by
  simp only [evaluateStops, Bool.and_eq_true, beq_iff_eq]
  rfl

/-- The route tick while the position is trusted: reckoning and its bound, the status of the age, the stops, the cue. -/
theorem routeTick_trusted {s : State} (h : s.route.status = .fresh ∨ s.route.status = .deadReckoned) :
    routeTick s = tryCue (if s.route.session = .running ∧ s.route.age < 150 ∧ (reckoned s).route.estimate ≠ s.route.estimate
      then evaluated (reckoned s) else reckoned s) := by
  have hreckoned : setCauseIf ((setRoute { (boundEstimate (setRoute (reckon s.route) s)).route with
      status := statusOfAge (boundEstimate (setRoute (reckon s.route) s)).route.age }
        (boundEstimate (setRoute (reckon s.route) s))).route.status == .stale) .positionStale
      (setRoute { (boundEstimate (setRoute (reckon s.route) s)).route with
        status := statusOfAge (boundEstimate (setRoute (reckon s.route) s)).route.age }
        (boundEstimate (setRoute (reckon s.route) s))) = reckoned s := by
    rw [boundEstimate_eq, reckon_eq]
    simp only [setRoute, State.withRoute, statusOfAge_succ]
    by_cases hold : s.route.age < 150
    · have hnot : ((if s.route.age < 50 then PositionStatus.fresh else if s.route.age < 150 then .deadReckoned else .stale)
          == .stale) = false := by rw [if_pos hold]; split <;> rfl
      rw [hnot, reckoned]
      simp only [hold, if_true]
      rfl
    · have hyoung : ¬ s.route.age < 50 := by omega
      rw [reckoned]
      simp only [hold, hyoung, if_false]
      rfl
  rw [routeTick, if_pos ((trusted_iff _).mpr h)]
  dsimp only
  rw [hreckoned]
  refine congrArg tryCue ?_
  by_cases hmoved : (reckoned s).route.estimate = s.route.estimate
  · rw [if_neg (by rw [hmoved, bne_self_eq_false]; exact Bool.false_ne_true), if_neg fun hall => hall.2.2 hmoved]
  · rw [if_pos (bne_iff_ne.mpr hmoved), evaluateStops_eq]
    exact if_congr ⟨fun hall => ⟨hall.1, (reckoned_trusted s).mp hall.2, hmoved⟩,
      fun hall => ⟨hall.1, (reckoned_trusted s).mpr hall.2.1⟩⟩ rfl rfl

theorem exec_routeTick {s : State} (hs : s.pins.held = false) : exec .routeTick s = .next (routeTick s) :=
  congrArg Host.Outcome.next (running_free hs)

/-- Settles O31. -/
theorem routeTickReckonsUntilThePositionIsStale : Obligations.RouteTickReckonsUntilThePositionIsStale := by
  refine ⟨fun s hs => ⟨fun hblind => ?blind, fun htrusted => ?trusted⟩, fun s hs hstatus hage hend => ?stale⟩
  case blind =>
    have hnot : ¬ trusted s.route = true := by
      rw [trusted_iff]
      rcases hblind with h | h <;> rw [h] <;> decide
    rw [exec_routeTick hs, routeTick, if_neg hnot]
  case trusted => rw [exec_routeTick hs, routeTick_trusted htrusted]; rfl
  case stale =>
    have hevent : routeEvent s = tryCue (reckoned s) := by
      rw [routeEvent, running_free hs, routeTick_trusted (.inr hstatus), if_neg fun hall => by
        have := hall.2.1; omega]
    have hframe := tryCue_frame (reckoned s)
    unfold TouchesEffects at hframe
    have hroute : (routeEvent s).route = { s.route with age := 151, status := .stale } := by
      have hshort : ¬ s.route.length * 100 ≤ s.route.estimate := Nat.not_le.mpr hend
      rw [hevent, hframe]
      simp [reckoned, hage, hshort, Nat.min_eq_right (Nat.le_of_lt hend)]
    refine ⟨_, occurrence_due (by rw [becomesStale, hstatus, hroute]; rfl) hs, hroute, ?_⟩
    rw [hevent]
    refine (tryCue_keeps _).1 10 ?_
    have hnotices : (reckoned s).notices.causes = s.notices.causes ||| 0x400#12 := by simp [reckoned, hage]
    rw [hnotices, BitVec.getLsbD_or]
    exact Bool.or_true _

end Sys2Proof.Machine

/-! # Proofs: the phases of an output frame; store, meter, ramps and crossfades (O14 to O17) -/

namespace Sys2Proof.Machine

set_option Elab.async false

/-! ## What the events of a frame or a tick leave of the mix -/

/-- The duck gain, the volume gains and the seat records stand. -/
def RampsKept (s t : State) : Prop :=
  t.mixer.duck = s.mixer.duck ∧ t.mixer.volumes = s.mixer.volumes ∧ t.seats.records = s.seats.records

theorem RampsKept.rfl (s : State) : RampsKept s s := ⟨Eq.refl _, Eq.refl _, Eq.refl _⟩

theorem RampsKept.trans {a b c : State} (hab : RampsKept a b) (hbc : RampsKept b c) : RampsKept a c :=
  ⟨hbc.1.trans hab.1, hbc.2.1.trans hab.2.1, hbc.2.2.trans hab.2.2⟩

theorem RampsKept.of_eq {s t : State} (hmixer : t.mixer = s.mixer) (hseats : t.seats = s.seats) : RampsKept s t := by
  rw [RampsKept, hmixer, hseats]; exact ⟨Eq.refl _, Eq.refl _, Eq.refl _⟩

theorem TouchesAnn.ramps {s t : State} (h : TouchesAnn s t) : RampsKept s t := by
  unfold TouchesAnn at h; rw [h]; exact .rfl s

theorem doAction_ramps (a : CueAction) (s : State) : RampsKept s (doAction a s).1 := by
  cases a with
  | announce phrase priority policy count => exact (offerEntry_frame _ s).ramps
  | scene | overlay | clear | headsetCeiling | paCeiling | paSource | duckDepth => exact .rfl s

theorem scanOnce_ramps (t : Trigger) (s : State) : RampsKept s (scanOnce t s).1 := by
  have hfold : ∀ (l : List (Fin 32)) (acc : Raised), RampsKept acc.1 (l.foldl (scanCue t) acc).1 := by
    intro l
    induction l with
    | nil => exact fun acc => .rfl acc.1
    | cons i l ih =>
      intro acc
      refine RampsKept.trans ?_ (ih _)
      unfold scanCue; dsimp only; split
      · exact doAction_ramps _ _
      · exact .rfl _
  exact hfold _ (s, [])

theorem raise_ramps (t : Trigger) (s : State) : RampsKept s (raise t s) :=
  (scanOnce_ramps t s).trans (foldl_touches _ .rfl .trans _ (fun s' t' => scanOnce_ramps t' s') _ _)

theorem raiseAll_ramps (r : Raised) : RampsKept r.1 (raiseAll r) :=
  foldl_touches _ .rfl .trans _ (fun s t => raise_ramps t s) _ _

theorem tryCue_ramps (s : State) : RampsKept s (tryCue s) := by
  unfold tryCue; split
  · exact .rfl s
  · exact (cueEntry_frame _ s).ramps.trans (raiseAll_ramps _)

theorem leaveTrailing_ramps (s : State) : RampsKept s (leaveTrailing s) := by
  unfold leaveTrailing; split
  · exact .rfl s
  · exact ((finishEntry_frame _ s).ramps.trans (raise_ramps _ _)).trans (tryCue_ramps _)

theorem chimeEnded_ramps (s : State) : RampsKept s (chimeEnded s) := by
  unfold chimeEnded; split
  · exact .rfl s
  · split
    · split
      · exact (toTrailing_frame _ s).ramps
      · split
        · exact (becomePlaying_frame s).ramps.trans (raise_ramps _ _)
        · exact .rfl s
    · exact .rfl s

theorem meterBlock_ramps (s : State) : RampsKept s (meterBlock s) := by
  unfold meterBlock; split
  · exact .rfl s
  · exact RampsKept.trans (b := s.withMeter ⟨endedLanes s.prog s.meter, 0⟩) (.rfl s) (silenceCheck_frame _).ramps

theorem trailingEvent_ramps (s : State) : RampsKept s (trailingEvent s) := by
  unfold trailingEvent; split
  · exact leaveTrailing_ramps s
  · exact .rfl s

theorem chimeEvent_ramps (b : Bool) (s : State) : RampsKept s (chimeEvent b s) := by
  unfold chimeEvent; split
  · exact chimeEnded_ramps s
  · exact .rfl s

theorem frameEvents_ramps (b : Bool) (s : State) : RampsKept s (frameEvents b s) :=
  (trailingEvent_ramps s).trans ((meterBlock_ramps _).trans (chimeEvent_ramps b _))

theorem sendReturnIf_only (b : Bool) (s : State) :
    sendReturnIf b s = { s with
      pins := (sendReturnIf b s).pins, out := (sendReturnIf b s).out, ret := (sendReturnIf b s).ret
      tx := (sendReturnIf b s).tx, reports := (sendReturnIf b s).reports } := by
  unfold sendReturnIf; split
  · unfold sendReturnFrame; dsimp only; rw [replySlot_frame]; rfl
  · rfl

/-! ## The phases of an output frame (R95) -/

theorem closePolls_dog (which : Vector Bool 4) (s : State) : (closePolls which s).dog = s.dog := by
  rw [closePolls_only]

theorem closePolls_store (which : Vector Bool 4) (s : State) : (closePolls which s).store = s.store := by
  rw [closePolls_only]

/-- The frame handed over and the store after it hang on the health and the store alone (R14). -/
theorem storeTake_congr {s t : State} (hdog : t.dog = s.dog) (hstore : t.store = s.store) :
    (storeTake t).1 = (storeTake s).1 ∧ (storeTake t).2.store = (storeTake s).2.store := by
  unfold storeTake
  rw [hdog, hstore]
  split <;> exact ⟨rfl, rfl⟩

theorem storeTake_only (s : State) :
    (storeTake s).2 = { s with
      store := (storeTake s).2.store, counters := (storeTake s).2.counters, notices := (storeTake s).2.notices } := by
  unfold storeTake; split <;> rfl

/-- The state of an output frame before its mix: the first reply windows closed, the frame taken from the store, the
meter, the crossfades and the ramps stepped. -/
def readied (o : FrameOrder) (s : State) : State :=
  prepared (storeTake (closePolls o.pollsFirst s)).1 (storeTake (closePolls o.pollsFirst s)).2

/-- The state of an output frame after its mix is sent, before its events. -/
def sentFrame (o : FrameOrder) (s : State) : State :=
  sendReturnIf o.returnFirst (sendFrame o s (storeTake (closePolls o.pollsFirst s)).1 (readied o s))

theorem runFrame_eq (o : FrameOrder) (s : State) :
    runFrame o s = sendReturnIf (!o.returnFirst) (frameEvents (chimeEnds (readied o s)) (sentFrame o s)) := rfl

theorem taken_eq (o : FrameOrder) (s : State) : (storeTake (closePolls o.pollsFirst s)).1 = usedFrame s :=
  (storeTake_congr (closePolls_dog _ s) (closePolls_store _ s)).1

theorem volumeStep_congr {s t : State} (hmixer : t.mixer = s.mixer) {i : Fin 65}
    (hstep : t.seats.records[i].step = s.seats.records[i].step) : volumeStep t i = volumeStep s i := by
  rw [volumeStep, volumeStep, hmixer, hstep]

theorem crossfade_keeps (p : Programme) (r : SeatRecord) :
    (crossfade p r).step = r.step ∧ (crossfade p r).language = r.language ∧ (crossfade p r).enabled = r.enabled := by
  unfold crossfade
  dsimp only
  repeat' split
  all_goals exact ⟨rfl, rfl, rfl⟩

theorem crossfadeStep_record (s : State) (i : Fin 65) :
    (crossfadeStep s).seats.records[i] = crossfade s.prog s.seats.records[i] := mapTable_get _ s.seats.records i

/-- The steps of meter, crossfades and ramps, each from the state before the frame (R15, R84, R104, R106). -/
theorem prepared_eq (f : LaneFrame) (s : State) :
    prepared f s = { s with
      meter := (meterSample f s).meter, seats := (crossfadeStep s).seats, mixer := (rampStep s).mixer } := by
  have hvolume : volumeStep (crossfadeStep (meterSample f s)) = volumeStep s := by
    funext i
    refine volumeStep_congr (by simp [crossfadeStep, meterSample]) ?_
    rw [crossfadeStep_record]
    exact (crossfade_keeps _ _).1
  rw [prepared, rampStep, hvolume]
  rfl

theorem readied_eq (o : FrameOrder) (s : State) :
    readied o s = { s with
      lines := (closePolls o.pollsFirst s).lines, notices := (readied o s).notices
      counters := (readied o s).counters, store := (storeTake s).2.store
      meter := (meterSample (usedFrame s) s).meter, seats := (crossfadeStep s).seats, mixer := (rampStep s).mixer } := by
  have hstore := (storeTake_congr (closePolls_dog o.pollsFirst s) (closePolls_store o.pollsFirst s)).2
  rw [readied, taken_eq, prepared_eq, storeTake_only, hstore, closePolls_only]
  rfl

theorem sendFrame_only (o : FrameOrder) (start : State) (f : LaneFrame) (s : State) :
    sendFrame o start f s = { s with
      ann := (chimeStep s).ann, lines := (sendFrame o start f s).lines, notices := (sendFrame o start f s).notices
      out := (sendFrame o start f s).out } := by
  rw [sendFrame]
  rw [sendPa, sendSeatFrames, closePolls_only]
  rfl

theorem sentFrame_eq (o : FrameOrder) (s : State) :
    sentFrame o s = { s with
      pins := (sentFrame o s).pins, out := (sentFrame o s).out, ret := (sentFrame o s).ret, tx := (sentFrame o s).tx
      reports := (sentFrame o s).reports, lines := (sentFrame o s).lines, notices := (sentFrame o s).notices
      counters := (readied o s).counters, ann := (chimeStep s).ann, store := (storeTake s).2.store
      meter := (meterSample (usedFrame s) s).meter, seats := (crossfadeStep s).seats, mixer := (rampStep s).mixer } := by
  rw [sentFrame, sendReturnIf_only, sendFrame_only, readied_eq]
  rfl

theorem frameEvents_only (b : Bool) (s : State) :
    frameEvents b s = { s with
      meter := (frameEvents b s).meter, lights := (frameEvents b s).lights, mixer := (frameEvents b s).mixer
      seats := (frameEvents b s).seats, ann := (frameEvents b s).ann, reports := (frameEvents b s).reports
      notices := (frameEvents b s).notices } := by
  have htrailing : TouchesEffects s (trailingEvent s) := by
    unfold trailingEvent; split
    · exact leaveTrailing_frame s
    · exact .rfl s
  have hblock (u : State) : meterBlock u = { u with
      meter := (meterBlock u).meter, ann := (meterBlock u).ann, reports := (meterBlock u).reports
      notices := (meterBlock u).notices } := by
    unfold meterBlock; split
    · rfl
    · have hframe := silenceCheck_frame (u.withMeter ⟨endedLanes u.prog u.meter, 0⟩)
      unfold TouchesAnn at hframe
      rw [hframe]; rfl
  have hchime (u : State) : TouchesEffects u (chimeEvent b u) := by
    unfold chimeEvent; split
    · exact chimeEnded_frame u
    · exact .rfl u
  unfold TouchesEffects at htrailing hchime
  rw [frameEvents, hchime, hblock, htrailing]

theorem exec_outputFrame (o : FrameOrder) {s : State} (hs : s.pins.held = false) :
    exec (.outputFrame o) s = .next (runFrame o s) := congrArg Host.Outcome.next (outputFrame_running hs)

/-! ## The store's output (R14) -/

theorem runFrame_store (o : FrameOrder) (s : State) : (runFrame o s).store = (storeTake s).2.store := by
  rw [runFrame_eq, sendReturnIf_only, frameEvents_only, sentFrame_eq]

theorem runFrame_counters (o : FrameOrder) (s : State) :
    (runFrame o s).counters = (storeTake (closePolls o.pollsFirst s)).2.counters := by
  have hsent : (sentFrame o s).counters = (readied o s).counters := by rw [sentFrame_eq]
  rw [runFrame_eq, sendReturnIf_only, frameEvents_only, hsent, readied, prepared_eq]

/-- No cause set by the time the frame is taken is cleared in its course. -/
theorem storeTake_runFrame_keeps (o : FrameOrder) (s : State) :
    CausesKept (storeTake (closePolls o.pollsFirst s)).2 (runFrame o s) := by
  have hchime : CausesKept (storeTake (closePolls o.pollsFirst s)).2 (chimeStep (readied o s)) := .of_eq (by
    rw [chimeStep, State.withAnn_notices, readied, prepared_notices])
  have hsent : CausesKept (chimeStep (readied o s)) (sentFrame o s) :=
    (closePolls_keeps _ _).trans ((sendFrame_keeps o s _ (readied o s)).trans (sendReturnIf_keeps _ _))
  rw [runFrame_eq]
  exact hchime.trans (hsent.trans ((frameEvents_keeps _ _).trans (sendReturnIf_keeps _ _)))

/-- A repeat slip is counted and noticed (R14). -/
theorem storeTake_repeat {s : State} (hhealth : s.dog.health = .ok) (hprimed : s.store.primed = true)
    (hempty : s.store.frames = []) :
    (storeTake s).2.counters.repeatSlips = satInc 65535 s.counters.repeatSlips ∧
      (storeTake s).2.notices.causes.getLsbD 3 = true := by
  rw [storeTake, hhealth, hprimed, hempty]
  exact ⟨rfl, setCause_sets .slip _⟩

theorem storeTake_lost {s : State} (h : s.dog.health = .lost) :
    storeTake s = handOver LaneFrame.absent s.store.frames s.store.primed s := by
  rw [storeTake, h]

theorem storeTake_unprimed {s : State} (hhealth : s.dog.health = .ok) (hprimed : s.store.primed = false)
    (hfew : s.store.frames.length < 2) : storeTake s = handOver LaneFrame.absent s.store.frames false s := by
  rw [storeTake, hhealth, hprimed]
  match hframes : s.store.frames with
  | [] => rfl
  | [f] => rfl
  | f :: g :: fs => simp [hframes] at hfew

theorem storeTake_front {s : State} {f : LaneFrame} {fs : List LaneFrame} (hhealth : s.dog.health = .ok)
    (hframes : s.store.frames = f :: fs) (hgoes : s.store.primed = true ∨ fs ≠ []) :
    storeTake s = handOver f fs true s := by
  rw [storeTake, hhealth, hframes]
  match hprimed : s.store.primed, fs with
  | true, _ => rfl
  | false, [] => exact absurd rfl (hgoes.resolve_left (by rw [hprimed]; exact Bool.false_ne_true))
  | false, g :: gs => rfl

theorem storeTake_empty {s : State} (hhealth : s.dog.health = .ok) (hprimed : s.store.primed = true)
    (hempty : s.store.frames = []) : storeTake s = handOver s.store.last [] true (repeatSlip s) := by
  rw [storeTake, hhealth, hprimed, hempty]

theorem storeTake_last (s : State) : (storeTake s).2.store.last = (storeTake s).1 := by
  unfold storeTake; split <;> rfl

/-- Settles O14. -/
theorem outputFrameTakesFromTheStore : Obligations.OutputFrameTakesFromTheStore := by
  intro o s hs
  have hstore := runFrame_store o s
  have hcounters := runFrame_counters o s
  have hcauses := (storeTake_runFrame_keeps o s).1 3
  refine ⟨runFrame o s, exec_outputFrame o hs, ?_⟩
  generalize runFrame o s = t at *
  rw [hstore]
  refine ⟨storeTake_last s, fun hlost => ?lost, fun hok hprimed hfew => ?unprimed,
    fun f fs hok hframes hgoes => ?front, fun hok hprimed hempty => ?repeats⟩
  case lost => rw [usedFrame, storeTake_lost hlost]; exact ⟨rfl, rfl, rfl⟩
  case unprimed => rw [usedFrame, storeTake_unprimed hok hprimed hfew]; exact ⟨rfl, rfl, rfl⟩
  case front => rw [usedFrame, storeTake_front hok hframes hgoes]; exact ⟨rfl, rfl, rfl⟩
  case repeats =>
    have hclosed := storeTake_repeat (s := closePolls o.pollsFirst s) (by rw [closePolls_dog, hok])
      (by rw [closePolls_store, hprimed]) (by rw [closePolls_store, hempty])
    have hkept : (closePolls o.pollsFirst s).counters = s.counters := by rw [closePolls_only]
    rw [hkept] at hclosed
    have htake := storeTake_empty hok hprimed hempty
    rw [usedFrame, htake, hcounters]
    exact ⟨rfl, rfl, rfl, hclosed.1, hcauses hclosed.2⟩

/-! ## The lane meter (R15, R16) -/

theorem trailingEvent_frame (s : State) : TouchesEffects s (trailingEvent s) := by
  unfold trailingEvent; split
  · exact leaveTrailing_frame s
  · exact .rfl s

theorem chimeEvent_frame (b : Bool) (s : State) : TouchesEffects s (chimeEvent b s) := by
  unfold chimeEvent; split
  · exact chimeEnded_frame s
  · exact .rfl s

theorem TouchesEffects.meter {s t : State} (h : TouchesEffects s t) : t.meter = s.meter := by
  unfold TouchesEffects at h; rw [h]

theorem TouchesEffects.prog {s t : State} (h : TouchesEffects s t) : t.prog = s.prog := by
  unfold TouchesEffects at h; rw [h]

theorem meterBlock_meter (s : State) :
    (meterBlock s).meter =
      if s.meter.blockPos < Config.meterBlock then s.meter else ⟨endedLanes s.prog s.meter, 0⟩ := by
  unfold meterBlock; split
  · rfl
  · rw [(silenceCheck_frame _).effects.meter]; rfl

/-- The meter after a frame: the frame used measured, and the block ended where it is full (R15, R16). -/
theorem runFrame_meter (o : FrameOrder) (s : State) :
    (runFrame o s).meter =
      if s.meter.blockPos + 1 < 256 then (meterSample (usedFrame s) s).meter
      else ⟨endedLanes s.prog (meterSample (usedFrame s) s).meter, 0⟩ := by
  have hmeter : (sentFrame o s).meter = (meterSample (usedFrame s) s).meter := by rw [sentFrame_eq]
  have hprog : (sentFrame o s).prog = s.prog := by rw [sentFrame_eq]
  rw [runFrame_eq, sendReturnIf_only]
  change (chimeEvent _ (meterBlock (trailingEvent (sentFrame o s)))).meter = _
  rw [(chimeEvent_frame _ _).meter, meterBlock_meter, (trailingEvent_frame _).meter, (trailingEvent_frame _).prog, hmeter,
    hprog]
  rfl

theorem meterSample_lane (f : LaneFrame) (s : State) (i : Fin 12) :
    (meterSample f s).meter.lanes[i] =
      { s.meter.lanes[i] with peak := max s.meter.lanes[i].peak (magnitude f i) } := by
  simp [meterSample]

theorem endedLanes_get (p : Programme) (m : Meter) (i : Fin 12) :
    (endedLanes p m)[i] =
      ⟨0, peakLevel m.lanes[i].peak, decide (peakLevel m.lanes[i].peak ≤ p.lanes[i].silence)⟩ := by
  simp [endedLanes]

/-- A level is the number of significant bits of its peak (R16). -/
theorem peakLevel_bounds {peak : Nat} (h : peak ≠ 0) :
    2 ^ (peakLevel peak - 1) ≤ peak ∧ peak < 2 ^ peakLevel peak ∧ 1 ≤ peakLevel peak := by
  rw [peakLevel, if_neg h]
  exact ⟨Nat.log2_self_le h, Nat.lt_log2_self, Nat.le_add_left _ _⟩

/-- Settles O15. -/
theorem meterMeasuresInBlocksOf256Frames : Obligations.MeterMeasuresInBlocksOf256Frames := by
  refine ⟨fun o s hs hpos => ?within, fun o s hs hpos => ?ends⟩
  case within =>
    have hmeter := runFrame_meter o s
    rw [if_pos (by omega)] at hmeter
    refine ⟨runFrame o s, exec_outputFrame o hs, by rw [hmeter]; rfl, fun i => ?_⟩
    rw [hmeter, meterSample_lane]
    rfl
  case ends =>
    have hmeter := runFrame_meter o s
    rw [if_neg (by omega)] at hmeter
    have hdue : blockEnds s = true := by rw [blockEnds, hpos]; rfl
    have hexec : exec (.meterBlockEnd o) s = .next (runFrame o s) :=
      (occurrence_due hdue hs).trans (congrArg Host.Outcome.next (outputFrame_running hs))
    refine ⟨runFrame o s, hexec, by rw [hmeter], fun i => ?_⟩
    have hlane : (runFrame o s).meter.lanes[i] =
        ⟨0, peakLevel (nextPeak s i), decide (peakLevel (nextPeak s i) ≤ s.prog.lanes[i].silence)⟩ := by
      rw [hmeter]
      dsimp only
      rw [endedLanes_get, meterSample_lane]
      rfl
    rw [hlane]
    exact ⟨rfl, fun hzero => by rw [hzero]; rfl, peakLevel_bounds, rfl⟩

/-! ## The ramps (R84, R104 to R106) -/

/-- The gains and the records after a frame are their steps from the state before it. -/
theorem runFrame_ramps (o : FrameOrder) (s : State) :
    (runFrame o s).mixer.duck = duckStep s ∧ (∀ i : Fin 65, (runFrame o s).mixer.volumes[i] = volumeStep s i) ∧
      ∀ i : Fin 65, (runFrame o s).seats.records[i] = crossfade s.prog s.seats.records[i] := by
  obtain ⟨hduck, hvolumes, hrecords⟩ := frameEvents_ramps (chimeEnds (readied o s)) (sentFrame o s)
  have hmixer : (sentFrame o s).mixer = (rampStep s).mixer := by rw [sentFrame_eq]
  have hseats : (sentFrame o s).seats = (crossfadeStep s).seats := by rw [sentFrame_eq]
  have hlast : (runFrame o s).mixer = (frameEvents (chimeEnds (readied o s)) (sentFrame o s)).mixer ∧
      (runFrame o s).seats = (frameEvents (chimeEnds (readied o s)) (sentFrame o s)).seats := by
    rw [runFrame_eq, sendReturnIf_only]; exact ⟨rfl, rfl⟩
  rw [hmixer] at hduck hvolumes
  rw [hseats] at hrecords
  rw [hlast.1, hlast.2, hduck, hvolumes, hrecords]
  exact ⟨rfl, fun i => by simp [rampStep], crossfadeStep_record s⟩

theorem inHand_iff (e : Entry) : inHand e = true ↔ e.state = .cued ∨ e.state = .playing := by simp [inHand]

theorem lampLit_iff (s : State) :
    lampLit s = true ↔ announceState s = some .cued ∨ announceState s = some .playing := by
  rw [lampLit, announceState]
  cases activeEntry s with
  | none => simp
  | some e => simp [inHand_iff]

theorem duckTarget_eq (s : State) :
    duckTarget s = if announceState s = some .cued ∨ announceState s = some .playing then
      depthGain s.mixer.audio.duckDepth else 32767 := by
  rw [duckTarget]
  exact if_congr (lampLit_iff s) rfl rfl

/-- Settles O16. -/
theorem outputFrameStepsEveryRamp : Obligations.OutputFrameStepsEveryRamp := by
  intro o s hs
  obtain ⟨hduck, hvolumes, hrecords⟩ := runFrame_ramps o s
  refine ⟨runFrame o s, exec_outputFrame o hs, ?_, fun i => (hvolumes i).trans rfl, hrecords⟩
  rw [hduck, duckStep, duckTarget_eq]

/-! ## The crossfade (R84, R85) -/

section Crossfade

variable {p : Programme} {r : SeatRecord}

theorem crossfade_steady_same (hphase : r.phase = .steady) (hsame : r.sounding = commentaryLane p r.language) :
    crossfade p r = r := by
  rw [crossfade, hphase]; exact if_pos hsame.symm

theorem crossfade_steady_other (hphase : r.phase = .steady) (hother : r.sounding ≠ commentaryLane p r.language) :
    crossfade p r = { r with phase := .fadeOut, fade := r.fade - 128 } := by
  rw [crossfade, hphase]; exact if_neg hother.symm

theorem crossfade_out_same (hphase : r.phase = .fadeOut) (hsame : r.sounding = commentaryLane p r.language) :
    crossfade p r = { r with phase := .fadeIn, fade := min 32767 (r.fade + 128) } := by
  rw [crossfade, hphase]; exact if_pos hsame.symm

theorem crossfade_out_falls (hphase : r.phase = .fadeOut) (hother : r.sounding ≠ commentaryLane p r.language)
    (hfade : 128 < r.fade) : crossfade p r = { r with fade := r.fade - 128 } := by
  have hleft : ¬(r.fade - Config.fadeStep = 0) := by change ¬(r.fade - 128 = 0); omega
  rw [crossfade, hphase]
  exact (if_neg hother.symm).trans (if_neg hleft)

theorem crossfade_out_switches (hphase : r.phase = .fadeOut) (hother : r.sounding ≠ commentaryLane p r.language)
    (hfade : r.fade ≤ 128) :
    crossfade p r = { r with sounding := commentaryLane p r.language, phase := .fadeIn, fade := 0 } := by
  have hnone : r.fade - Config.fadeStep = 0 := by change r.fade - 128 = 0; omega
  rw [crossfade, hphase]
  exact (if_neg hother.symm).trans (if_pos hnone)

theorem crossfade_in_rises (hphase : r.phase = .fadeIn) (hsame : r.sounding = commentaryLane p r.language)
    (hfade : r.fade < 32639) : crossfade p r = { r with fade := r.fade + 128 } := by
  have hup : min Config.fullGain (r.fade + Config.fadeStep) = r.fade + 128 := by
    change min 32767 (r.fade + 128) = _; omega
  have hless : ¬(r.fade + 128 = Config.fullGain) := by change ¬(r.fade + 128 = 32767); omega
  rw [crossfade, hphase]
  dsimp only
  rw [if_pos hsame.symm, hup, if_neg hless, ← hphase]

theorem crossfade_in_completes (hphase : r.phase = .fadeIn) (hsame : r.sounding = commentaryLane p r.language)
    (hfade : 32639 ≤ r.fade) : crossfade p r = { r with phase := .steady, fade := 32767 } := by
  have hup : min Config.fullGain (r.fade + Config.fadeStep) = Config.fullGain := by
    change min 32767 (r.fade + 128) = 32767; omega
  rw [crossfade, hphase]
  dsimp only
  rw [if_pos hsame.symm, hup, if_pos rfl]
  rfl

theorem crossfade_in_other (hphase : r.phase = .fadeIn) (hother : r.sounding ≠ commentaryLane p r.language) :
    crossfade p r = { r with phase := .fadeOut, fade := r.fade - 128 } := by
  rw [crossfade, hphase]; exact if_neg hother.symm

/-- A fall of several frames before gain 0 is near. -/
theorem crossfade_iterate_falls (hphase : r.phase = .fadeOut) (hother : r.sounding ≠ commentaryLane p r.language) (n : Nat)
    (hfade : 128 * n < r.fade) : (crossfade p)^[n] r = { r with fade := r.fade - 128 * n } := by
  induction n with
  | zero => rfl
  | succ n ih =>
    rw [Function.iterate_succ_apply', ih (by omega),
      crossfade_out_falls (r := { r with fade := r.fade - 128 * n }) hphase hother (by dsimp only; omega)]
    dsimp only
    rw [Nat.sub_sub]
    rfl

/-- A rise of several frames before full gain is near. -/
theorem crossfade_iterate_rises (hphase : r.phase = .fadeIn) (hsame : r.sounding = commentaryLane p r.language) (n : Nat)
    (hfade : r.fade + 128 * n < 32767) : (crossfade p)^[n] r = { r with fade := r.fade + 128 * n } := by
  induction n with
  | zero => rfl
  | succ n ih =>
    rw [Function.iterate_succ_apply', ih (by omega),
      crossfade_in_rises (r := { r with fade := r.fade + 128 * n }) hphase hsame (by dsimp only; omega)]
    dsimp only
    rw [Nat.add_assoc]
    rfl

/-- A fall from STEADY, before gain 0 is near. -/
theorem crossfade_iterate_out (hphase : r.phase = .steady) (hfull : r.fade = 32767)
    (hother : r.sounding ≠ commentaryLane p r.language) (n : Nat) (hpos : 0 < n) (hn : n < 256) :
    (crossfade p)^[n] r = { r with phase := .fadeOut, fade := 32767 - 128 * n } := by
  obtain ⟨m, rfl⟩ : ∃ m, n = m + 1 := ⟨n - 1, by omega⟩
  rw [Function.iterate_succ_apply, crossfade_steady_other hphase hother,
    crossfade_iterate_falls (r := { r with phase := .fadeOut, fade := r.fade - 128 }) rfl hother m (by dsimp only; omega),
    hfull, Nat.sub_sub]
  have hsum : 128 + 128 * m = 128 * (m + 1) := by omega
  rw [hsum]

/-- The lane is switched at gain 0 in the 256th frame. -/
theorem crossfade_iterate_switched (hphase : r.phase = .steady) (hfull : r.fade = 32767)
    (hother : r.sounding ≠ commentaryLane p r.language) :
    (crossfade p)^[256] r = { r with phase := .fadeIn, fade := 0, sounding := commentaryLane p r.language } := by
  have hlast : ∀ n, n = 255 → (crossfade p)^[n + 1] r =
      { r with phase := .fadeIn, fade := 0, sounding := commentaryLane p r.language } := by
    intro n hn
    rw [Function.iterate_succ_apply', crossfade_iterate_out hphase hfull hother n (by omega) (by omega)]
    exact crossfade_out_switches (r := { r with phase := .fadeOut, fade := 32767 - 128 * n }) rfl hother
      (by dsimp only; omega)
  exact hlast 255 rfl

/-- The rise on the new lane, before full gain is near. -/
theorem crossfade_iterate_in (hphase : r.phase = .steady) (hfull : r.fade = 32767)
    (hother : r.sounding ≠ commentaryLane p r.language) (n : Nat) (hn : n < 256) :
    (crossfade p)^[n + 256] r =
      { r with phase := .fadeIn, fade := 0 + 128 * n, sounding := commentaryLane p r.language } := by
  rw [Function.iterate_add_apply, crossfade_iterate_switched hphase hfull hother]
  exact crossfade_iterate_rises
    (r := { r with phase := .fadeIn, fade := 0, sounding := commentaryLane p r.language }) rfl rfl n
    (by dsimp only; omega)

theorem crossfade_iterate_whole (hphase : r.phase = .steady) (hfull : r.fade = 32767)
    (hother : r.sounding ≠ commentaryLane p r.language) :
    (crossfade p)^[512] r = { r with phase := .steady, fade := 32767, sounding := commentaryLane p r.language } := by
  have hlast : ∀ n, n = 255 → (crossfade p)^[n + 256 + 1] r =
      { r with phase := .steady, fade := 32767, sounding := commentaryLane p r.language } := by
    intro n hn
    rw [Function.iterate_succ_apply', crossfade_iterate_in hphase hfull hother n (by omega)]
    exact crossfade_in_completes
      (r := { r with phase := .fadeIn, fade := 0 + 128 * n, sounding := commentaryLane p r.language }) rfl rfl
      (by dsimp only; omega)
  exact hlast 255 rfl

end Crossfade

/-- Settles O17. -/
theorem crossfadeSwitchesAndCompletes : Obligations.CrossfadeSwitchesAndCompletes := by
  refine ⟨fun i o s hs hphase hfade hother => ?switch, fun i o s hs hphase hfade hsame => ?complete, ?rows,
    fun p r hphase hfade hother => ?reversal, fun p r hphase hfade hother => ?whole⟩
  case switch =>
    have hrecord := ((runFrame_ramps o s).2.2 i).trans (crossfade_out_switches hphase hother hfade)
    rw [← outputFrame_running hs] at hrecord
    have hdue : switches i s (outputFrame o s) = true := by rw [switches, hrecord, hphase]; rfl
    exact ⟨outputFrame o s, occurrence_due hdue hs, hrecord⟩
  case complete =>
    have hrecord := ((runFrame_ramps o s).2.2 i).trans (crossfade_in_completes hphase hsame hfade)
    rw [← outputFrame_running hs] at hrecord
    have hdue : fadesIn i s (outputFrame o s) = true := by rw [fadesIn, hrecord, hphase]; rfl
    exact ⟨outputFrame o s, occurrence_due hdue hs, hrecord⟩
  case rows =>
    intro i o s hs r same
    have hrecord := (runFrame_ramps o s).2.2 i
    refine ⟨runFrame o s, exec_outputFrame o hs, ?_⟩
    rw [hrecord]
    exact ⟨crossfade_steady_same, crossfade_steady_other, crossfade_out_same, crossfade_out_falls, crossfade_in_rises,
      crossfade_in_other⟩
  case reversal =>
    have hzero : r.fade - 128 = 0 := by omega
    have hout := crossfade_in_other hphase hother
    rw [hzero] at hout
    refine ⟨hout, (congrArg (crossfade p) hout).trans ?_⟩
    exact crossfade_out_switches (r := { r with phase := .fadeOut, fade := 0 }) rfl hother (Nat.zero_le _)
  case whole =>
    exact ⟨crossfade_iterate_out hphase hfade hother 255 (by omega) (by omega), crossfade_iterate_switched hphase hfade hother,
      crossfade_iterate_in hphase hfade hother 255 (by omega), crossfade_iterate_whole hphase hfade hother⟩

end Sys2Proof.Machine

/-! # Proofs: the local tick (O12, O13, O35) -/

namespace Sys2Proof.Machine

set_option Elab.async false

/-! ## The active entry and the conditions of a cue (R137, R140) -/

theorem activeEntry_congr {s t : State} (h : t.ann.queue = s.ann.queue) : activeEntry t = activeEntry s := by
  rw [activeEntry, h, activeEntry]

theorem announceState_of {s : State} {e : Entry} (h : activeEntry s = some e) : announceState s = some e.state := by
  rw [announceState, h]; rfl

theorem mayGo_iff (now : Nat) (e : Entry) : mayGo now e = true ↔ ∀ n, e.notBefore = some n → n ≤ now := by
  unfold mayGo
  cases e.notBefore with
  | none => simp
  | some n => simp

/-- The front entry goes where nothing is active, health is OK and its time has come (R140). -/
theorem cueable_front {s : State} {e : Entry} {q : List Entry} (hqueue : s.ann.queue = e :: q)
    (hidle : activeEntry s = none) (hok : s.dog.health = .ok) (hgo : ∀ n, e.notBefore = some n → n ≤ s.now) :
    cueable s = some e := by
  have hwaiting : isWaiting e = true := by
    rw [isWaiting_eq_not_isActive, activeEntry_none hidle e (by rw [hqueue]; exact List.mem_cons_self)]; rfl
  unfold cueable
  rw [hqueue, hidle, hok]
  simp only [hwaiting, (mayGo_iff s.now e).mpr hgo]
  rfl

theorem cueable_active {s : State} {e : Entry} (h : activeEntry s = some e) : cueable s = none := by
  unfold cueable
  cases s.ann.queue with
  | nil => rfl
  | cons f q => simp only [h]; rfl

theorem cueable_lost {s : State} (h : s.dog.health = .lost) : cueable s = none := by
  unfold cueable
  cases s.ann.queue with
  | nil => rfl
  | cons f q =>
    refine if_neg ?_
    simp [h]

theorem tryCue_none {s : State} (h : cueable s = none) : tryCue s = s := by rw [tryCue, h]

theorem cueNext_none {s : State} (h : cueable s = none) : cueNext s = s := by rw [cueNext, h]

/-! ## The cue (R141, R143) -/

/-- The plan hangs on the lane table, the carousel, the seat lines and what the records show of who listens to what. -/
theorem buildPlan_congr {s t : State} (hprog : t.prog = s.prog) (hlines : t.lines = s.lines)
    (hsource : t.seats.paSource = s.seats.paSource)
    (hrecords : ∀ i : Fin 65, t.seats.records[i].enabled = s.seats.records[i].enabled ∧
      t.seats.records[i].language = s.seats.records[i].language) : buildPlan t = buildPlan s := by
  have hstate (i : Fin 65) : seatState t i = seatState s i := by
    rw [seatState, seatState, hlines, hsource, (hrecords i).1]
  have hchosen : chosen t = chosen s := by
    funext tag
    unfold chosen
    congr 1
    funext i
    rw [hstate, (hrecords i).2]
  have hother : otherNeeded t = otherNeeded s := by rw [otherNeeded, otherNeeded, hprog, hchosen]
  rw [buildPlan, buildPlan, hprog, hother]

/-- Whether a cue leaves its entry without plan and chime, so that it goes to TRAILING at once (R143). -/
def cueMute (e : Entry) (s : State) : Prop := buildPlan s = [] ∧ s.ann.slots[chimeSlot e] = []

theorem startChime_eq (slots : Vector (List Note) 4) (k : Fin 4) :
    startChime slots k = if slots[k] = [] then none else some ⟨k, slots[k], 0, 0⟩ := by
  rw [startChime]
  exact if_congr List.isEmpty_iff rfl rfl

/-- The state of a cue before an empty plan is looked at: ticket, plan, chime and Cue report (R141). -/
def cueStarted (e : Entry) (s : State) : State :=
  offerReport (cueReport e (nextTicket s.ann.ticket) (buildPlan s)) (s.withAnn { s.ann with
    queue := s.ann.queue.map fun f =>
      if hasKey e.kind e.subject f then cuedEntry (nextTicket s.ann.ticket) (buildPlan s) f else f
    ticket := nextTicket s.ann.ticket, cueTimer := 0, chime := startChime s.ann.slots (chimeSlot e) })

theorem cueStarted_ann (e : Entry) (s : State) : (cueStarted e s).ann = { s.ann with
    queue := s.ann.queue.map fun f =>
      if hasKey e.kind e.subject f then cuedEntry (nextTicket s.ann.ticket) (buildPlan s) f else f
    ticket := nextTicket s.ann.ticket, cueTimer := 0, chime := startChime s.ann.slots (chimeSlot e) } := by
  rw [cueStarted, offerReport_ann]; rfl

theorem cueMute_iff (e : Entry) (s : State) :
    ((buildPlan s).isEmpty && (cueStarted e s).ann.chime.isNone) = true ↔ cueMute e s := by
  rw [cueStarted_ann, Bool.and_eq_true, List.isEmpty_iff, cueMute, startChime_eq]
  by_cases hnotes : s.ann.slots[chimeSlot e] = []
  · rw [if_pos hnotes]; simp [hnotes]
  · rw [if_neg hnotes]; exact ⟨fun h => absurd h.2 (by simp), fun h => absurd h.2 hnotes⟩

theorem cueEntry_eq (e : Entry) (s : State) :
    (cueEntry e s).1 =
      if (buildPlan s).isEmpty && (cueStarted e s).ann.chime.isNone then toTrailing .noLanes (cueStarted e s)
      else cueStarted e s := rfl

theorem cueEntry_speaking {e : Entry} {s : State} (h : ¬cueMute e s) : (cueEntry e s).1 = cueStarted e s := by
  rw [cueEntry_eq, if_neg (mt (cueMute_iff e s).mp h)]

theorem cueEntry_mute {e : Entry} {s : State} (h : cueMute e s) :
    (cueEntry e s).1 = toTrailing .noLanes (cueStarted e s) := by
  rw [cueEntry_eq, if_pos ((cueMute_iff e s).mpr h)]

theorem cueEntry_reports (e : Entry) (s : State) :
    (cueEntry e s).1.reports = (offerReport (cueReport e (nextTicket s.ann.ticket) (buildPlan s)) s).reports := by
  have hstarted : (cueStarted e s).reports =
      (offerReport (cueReport e (nextTicket s.ann.ticket) (buildPlan s)) s).reports :=
    offerReport_reports_congr _ rfl
  by_cases h : cueMute e s
  · rw [cueEntry_mute h]; exact hstarted
  · rw [cueEntry_speaking h]; exact hstarted

/-- The active entry, once the front entry is cued. -/
theorem activeEntry_cueStarted {s : State} {e : Entry} {q : List Entry} (hqueue : s.ann.queue = e :: q) :
    activeEntry (cueStarted e s) = some (cuedEntry (nextTicket s.ann.ticket) (buildPlan s) e) := by
  have hkey : hasKey e.kind e.subject e = true := (hasKey_iff _ _ _).mpr rfl
  have hmap : (cueStarted e s).ann.queue = (e :: q).map fun f =>
      if hasKey e.kind e.subject f then cuedEntry (nextTicket s.ann.ticket) (buildPlan s) f else f := by
    rw [cueStarted_ann, hqueue]
  rw [activeEntry, hmap, List.map_cons, if_pos hkey]
  exact List.find?_cons_of_pos rfl

theorem activeEntry_cueEntry {s : State} {e : Entry} {q : List Entry} (hqueue : s.ann.queue = e :: q)
    (h : ¬cueMute e s) :
    activeEntry (cueEntry e s).1 = some (cuedEntry (nextTicket s.ann.ticket) (buildPlan s) e) := by
  rw [cueEntry_speaking h, activeEntry_cueStarted hqueue]

theorem activeEntry_cueEntry_mute {s : State} {e : Entry} {q : List Entry} (hqueue : s.ann.queue = e :: q)
    (h : cueMute e s) :
    activeEntry (cueEntry e s).1 = some { cuedEntry (nextTicket s.ann.ticket) (buildPlan s) e with
      state := .trailing, reason := some .noLanes } := by
  rw [cueEntry_mute h, activeEntry_toTrailing, activeEntry_cueStarted hqueue]; rfl

/-! ## The phases of a local tick (R9, R82, R147) -/

theorem exec_localTick (b : Bool) {s : State} (hs : s.pins.held = false) :
    exec (.localTick b) s = .next (localTick b s) := congrArg Host.Outcome.next (running_free hs)

theorem tickEvent_eq (b : Bool) {s : State} (hs : s.pins.held = false) : tickEvent b s = localTick b s := running_free hs

theorem localTick_true (s : State) : localTick true s = tickUsers (watchdogTick (s.withNow (s.now + 1))) := rfl

theorem localTick_false (s : State) : localTick false s = watchdogTick (tickUsers (s.withNow (s.now + 1))) := rfl

theorem tickUsers_eq (s : State) : tickUsers s = tryCue (announceTimers (holdoffTick s)) := rfl

theorem TouchesEffects.now {s t : State} (h : TouchesEffects s t) : t.now = s.now := by
  unfold TouchesEffects at h; rw [h]

theorem TouchesEffects.dog {s t : State} (h : TouchesEffects s t) : t.dog = s.dog := by
  unfold TouchesEffects at h; rw [h]

theorem TouchesEffects.store {s t : State} (h : TouchesEffects s t) : t.store = s.store := by
  unfold TouchesEffects at h; rw [h]

theorem TouchesAnn.lights {s t : State} (h : TouchesAnn s t) : t.lights = s.lights := by
  unfold TouchesAnn at h; rw [h]

theorem TouchesAnn.seats {s t : State} (h : TouchesAnn s t) : t.seats = s.seats := by
  unfold TouchesAnn at h; rw [h]

/-- Health as it falls, before anything is told of it (R11). -/
def fallen (s : State) : State :=
  (s.withDog ⟨.lost, 0, 0, false⟩).withStore { s.store with frames := [], primed := false }

theorem healthFalls_from (s : State) : TouchesEffects (fallen s) (healthFalls s) := by
  unfold healthFalls
  dsimp only
  exact ((setCause_frame _ _).effects.trans (abortActive_frame _ _).effects).trans
    ((lights_frame _ _).trans (raise_frame _ _))

theorem healthRises_from (s : State) : TouchesEffects (s.withDog ⟨.ok, 0, 0, false⟩) (healthRises s) := by
  unfold healthRises
  dsimp only
  exact (setCause_frame _ _).effects.trans ((lights_frame _ _).trans
    ((tryCue_frame _).trans ((raise_frame _ _).trans (tryCue_frame _))))

theorem lights_ramps (x : Lights) (s : State) : RampsKept s (s.withLights x) := .rfl s

theorem fallen_ramps (s : State) : RampsKept s (setCause .trunkLost (fallen s)) := .rfl s

theorem risen_ramps (s : State) : RampsKept s (setCause .trunkRestored (s.withDog ⟨.ok, 0, 0, false⟩)) := .rfl s

theorem healthFalls_ramps (s : State) : RampsKept s (healthFalls s) := by
  unfold healthFalls
  dsimp only
  exact (fallen_ramps s).trans ((abortActive_frame _ _).ramps.trans ((lights_ramps _ _).trans (raise_ramps _ _)))

theorem healthRises_ramps (s : State) : RampsKept s (healthRises s) := by
  unfold healthRises
  dsimp only
  exact (risen_ramps s).trans ((lights_ramps _ _).trans
    ((tryCue_ramps _).trans ((raise_ramps _ _).trans (tryCue_ramps _))))

/-! ### The watchdog (R9, R10) -/

section Watchdog

variable {s : State}

theorem watchdogTick_good (hok : s.dog.health = .ok) (hgood : s.dog.goodInTick = true) :
    watchdogTick s = s.withDog { s.dog with silentRun := 0, goodInTick := false } := by
  rw [watchdogTick, hok]; exact if_pos hgood

theorem watchdogTick_silent (hok : s.dog.health = .ok) (hgood : s.dog.goodInTick = false) (hrun : s.dog.silentRun + 1 < 20) :
    watchdogTick s = s.withDog { s.dog with silentRun := s.dog.silentRun + 1, goodInTick := false } := by
  rw [watchdogTick, hok, hgood]; exact if_pos hrun

theorem watchdogTick_falls (hok : s.dog.health = .ok) (hgood : s.dog.goodInTick = false)
    (hrun : ¬s.dog.silentRun + 1 < 20) : watchdogTick s = healthFalls s := by
  rw [watchdogTick, hok, hgood]; exact if_neg hrun

theorem watchdogTick_restores (hlost : s.dog.health = .lost) (hgood : s.dog.goodInTick = true)
    (hrun : s.dog.restoreRun + 1 < 200) :
    watchdogTick s = s.withDog { s.dog with restoreRun := s.dog.restoreRun + 1, goodInTick := false } := by
  rw [watchdogTick, hlost, hgood]; exact if_pos hrun

theorem watchdogTick_rises (hlost : s.dog.health = .lost) (hgood : s.dog.goodInTick = true)
    (hrun : ¬s.dog.restoreRun + 1 < 200) : watchdogTick s = healthRises s := by
  rw [watchdogTick, hlost, hgood]; exact if_neg hrun

theorem watchdogTick_lost (hlost : s.dog.health = .lost) (hgood : s.dog.goodInTick = false) :
    watchdogTick s = s.withDog { s.dog with restoreRun := 0, goodInTick := false } := by
  rw [watchdogTick, hlost, hgood]; exact if_neg Bool.false_ne_true

/-- The watchdog runs: its five outcomes. -/
theorem watchdogTick_cases (s : State) :
    (∃ d, watchdogTick s = s.withDog d) ∨ watchdogTick s = healthFalls s ∨ watchdogTick s = healthRises s := by
  unfold watchdogTick
  split
  · split
    · exact .inl ⟨_, rfl⟩
    · split
      · exact .inl ⟨_, rfl⟩
      · exact .inr (.inl rfl)
  · split
    · split
      · exact .inl ⟨_, rfl⟩
      · exact .inr (.inr rfl)
    · exact .inl ⟨_, rfl⟩

end Watchdog

theorem watchdogTick_ramps (s : State) : RampsKept s (watchdogTick s) := by
  rcases watchdogTick_cases s with ⟨d, h⟩ | h | h <;> rw [h]
  · exact .rfl s
  · exact healthFalls_ramps s
  · exact healthRises_ramps s

theorem watchdogTick_now (s : State) : (watchdogTick s).now = s.now := by
  rcases watchdogTick_cases s with ⟨d, h⟩ | h | h <;> rw [h]
  · rfl
  · exact (healthFalls_from s).now
  · exact (healthRises_from s).now

/-- The watchdog's runs after a tick, and what resets them (R9 to R12). -/
theorem watchdogTick_dog (s : State) : (watchdogTick s).dog =
    if s.dog.health = .ok then
      (if s.dog.goodInTick = true then ⟨.ok, 0, s.dog.restoreRun, false⟩
      else if s.dog.silentRun + 1 < 20 then ⟨.ok, s.dog.silentRun + 1, s.dog.restoreRun, false⟩
      else ⟨.lost, 0, 0, false⟩)
    else if s.dog.goodInTick = true then
      (if s.dog.restoreRun + 1 < 200 then ⟨.lost, s.dog.silentRun, s.dog.restoreRun + 1, false⟩
      else ⟨.ok, 0, 0, false⟩)
    else ⟨.lost, s.dog.silentRun, 0, false⟩ := by
  cases hhealth : s.dog.health with
  | ok =>
    rw [if_pos rfl]
    cases hgood : s.dog.goodInTick with
    | true => rw [if_pos rfl, watchdogTick_good hhealth hgood, ← hhealth]; rfl
    | false =>
      rw [if_neg Bool.false_ne_true]
      by_cases hrun : s.dog.silentRun + 1 < 20
      · rw [if_pos hrun, watchdogTick_silent hhealth hgood hrun, ← hhealth]; rfl
      · rw [if_neg hrun, watchdogTick_falls hhealth hgood hrun]; exact (healthFalls_from s).dog
  | lost =>
    rw [if_neg (by decide)]
    cases hgood : s.dog.goodInTick with
    | false => rw [if_neg Bool.false_ne_true, watchdogTick_lost hhealth hgood, ← hhealth]; rfl
    | true =>
      rw [if_pos rfl]
      by_cases hrun : s.dog.restoreRun + 1 < 200
      · rw [if_pos hrun, watchdogTick_restores hhealth hgood hrun, ← hhealth]; rfl
      · rw [if_neg hrun, watchdogTick_rises hhealth hgood hrun]; exact (healthRises_from s).dog

/-! ### The other users of a tick -/

theorem holdoffTick_record (s : State) (i : Fin 65) : (holdoffTick s).seats.records[i] =
    { s.seats.records[i] with holdoff := s.seats.records[i].holdoff - 1 } := by
  rw [holdoffTick, State.withSeats_seats, mapTable_get]

/-- The call holdoffs touch the records alone. -/
theorem holdoffTick_only (s : State) : ∃ x : SeatTable, holdoffTick s = s.withSeats x ∧ x.paSource = s.seats.paSource :=
  ⟨_, rfl, rfl⟩

theorem holdoffTick_ann (s : State) : (holdoffTick s).ann = s.ann := by
  obtain ⟨x, hx, -⟩ := holdoffTick_only s
  rw [hx]; rfl

theorem activeEntry_holdoffTick (s : State) : activeEntry (holdoffTick s) = activeEntry s :=
  activeEntry_congr (by rw [holdoffTick_ann])

theorem holdoffTick_shown (s : State) : (holdoffTick s).lights = s.lights ∧ (holdoffTick s).reports = s.reports ∧
    (holdoffTick s).seats.paSource = s.seats.paSource ∧ (holdoffTick s).prog = s.prog ∧ (holdoffTick s).lines = s.lines ∧
    (holdoffTick s).cues = s.cues ∧ (holdoffTick s).now = s.now ∧ (holdoffTick s).dog = s.dog := by
  obtain ⟨x, hx, hsource⟩ := holdoffTick_only s
  rw [hx]
  exact ⟨rfl, rfl, hsource, rfl, rfl, rfl, rfl, rfl⟩

theorem tickUsers_ramps (s : State) : RampsKept (holdoffTick s) (tickUsers s) :=
  (announceTimers_frame _).ramps.trans (tryCue_ramps _)

/-- Each record after a tick: its call holdoff one less (R82). -/
theorem localTick_record (b : Bool) (s : State) (i : Fin 65) : (localTick b s).seats.records[i] =
    { s.seats.records[i] with holdoff := s.seats.records[i].holdoff - 1 } := by
  have hcongr {u v : State} (h : v.seats.records = u.seats.records) :
      (holdoffTick v).seats.records[i] = (holdoffTick u).seats.records[i] := by
    rw [holdoffTick_record, holdoffTick_record, h]
  cases b with
  | true =>
    rw [localTick_true, (tickUsers_ramps _).2.2, hcongr (watchdogTick_ramps _).2.2, holdoffTick_record]; rfl
  | false => rw [localTick_false, (watchdogTick_ramps _).2.2, (tickUsers_ramps _).2.2, holdoffTick_record]; rfl

theorem localTick_now (b : Bool) (s : State) : (localTick b s).now = s.now + 1 := by
  cases b with
  | true => rw [localTick_true, (tickUsers_frame _).now, watchdogTick_now]; rfl
  | false => rw [localTick_false, watchdogTick_now, (tickUsers_frame _).now]; rfl

/-- Settles O12. -/
theorem localTickCountsDownHoldoffs : Obligations.LocalTickCountsDownHoldoffs := by
  refine ⟨fun b s hs => ?tick, fun i b s hs hlast => ?expiry⟩
  case tick =>
    have hframe := localTick_frame b s
    refine ⟨localTick b s, exec_localTick b hs, localTick_now b s, localTick_record b s, ?_⟩
    generalize localTick b s = t at *
    unfold TouchesTick at hframe
    rw [hframe]
    exact ⟨rfl, rfl, rfl, rfl, rfl, rfl, rfl, rfl, rfl, rfl, rfl, rfl⟩
  case expiry =>
    have hrecord := localTick_record b s i
    have hdue : holdoffLast i s = true := by rw [holdoffLast, hlast]; rfl
    have hexec : exec (.callHoldoffExpiry i b) s = .next (localTick b s) :=
      (occurrence_due hdue hs).trans (congrArg Host.Outcome.next (tickEvent_eq b hs))
    rw [hlast] at hrecord
    exact ⟨localTick b s, hexec, localTick_now b s, by rw [hrecord], hrecord⟩

/-! ## The timers (R147, R148) -/

/-- The entry `e` in hand in `s` has been aborted: its Abort queued, its chime stopped, and it is TRAILING (R148). -/
def AbortedBy (r : Reason) (e : Entry) (s t : State) : Prop :=
  t.ann.chime = none ∧ activeEntry t = some { e with state := .trailing, reason := some r } ∧
    t.reports = (offerReport (abortReport e.ticket r) s).reports

theorem AbortedBy.congr {r : Reason} {e : Entry} {s s' t t' : State} (h : AbortedBy r e s t)
    (hreports : s'.reports = s.reports) (hann : t'.ann = t.ann) (hreports' : t'.reports = t.reports) :
    AbortedBy r e s' t' := by
  obtain ⟨hchime, hactive, hqueued⟩ := h
  refine ⟨by rw [hann, hchime], by rw [activeEntry_congr (congrArg Announcer.queue hann), hactive], ?_⟩
  rw [hreports', hqueued]
  exact offerReport_reports_congr _ hreports.symm

theorem abortActive_hand {s : State} {e : Entry} (h : activeEntry s = some e) (hhand : inHand e = true) (r : Reason) :
    abortActive r s = toTrailing r (offerReport (abortReport e.ticket r) s) := by
  rw [abortActive, h]; exact if_pos hhand

theorem abortActive_aborts {s : State} {e : Entry} (h : activeEntry s = some e) (hhand : inHand e = true) (r : Reason) :
    AbortedBy r e s (abortActive r s) := by
  rw [abortActive_hand h hhand]
  refine ⟨rfl, ?_, rfl⟩
  rw [activeEntry_toTrailing, activeEntry_congr (congrArg Announcer.queue (offerReport_ann _ s)), h]
  rfl

/-- A CUED entry without its clip, at the cue timeout. -/
theorem announceTimers_timeout {s : State} {e : Entry} (h : activeEntry s = some e) (hstate : e.state = .cued)
    (hclip : e.clipStarted = false) (hplan : e.plan.getD [] ≠ []) (hdue : s.ann.cueTimeout ≤ s.ann.cueTimer + 1) :
    AbortedBy .timeout e s (announceTimers s) := by
  have hwaits : (e.state == .cued && !e.clipStarted && !(e.plan.getD []).isEmpty) = true := by
    simp [hstate, hclip, hplan]
  have htimers : announceTimers s = abortActive .timeout (s.withAnn { s.ann with cueTimer := s.ann.cueTimer + 1 }) := by
    rw [announceTimers, h]
    dsimp only
    rw [if_pos hwaits, if_pos hdue]
  have hhand : inHand e = true := (inHand_iff e).mpr (.inl hstate)
  rw [htimers]
  exact (abortActive_aborts (s := s.withAnn { s.ann with cueTimer := s.ann.cueTimer + 1 }) h hhand _).congr rfl rfl rfl

/-- A PLAYING entry at the maximum play time. -/
theorem announceTimers_maxTime {s : State} {e : Entry} (h : activeEntry s = some e) (hstate : e.state = .playing)
    (hdue : 60000 ≤ s.ann.playTimer + 1) : AbortedBy .maxTime e s (announceTimers s) := by
  have hnot : ¬(e.state == .cued && !e.clipStarted && !(e.plan.getD []).isEmpty) = true := by simp [hstate]
  have htimers : announceTimers s = abortActive .maxTime (s.withAnn { s.ann with playTimer := s.ann.playTimer + 1 }) := by
    rw [announceTimers, h]
    dsimp only
    have hmax : Config.maxPlayTime ≤ s.ann.playTimer + 1 := hdue
    rw [if_neg hnot, if_pos (by simp [hstate]), if_pos hmax]
  have hhand : inHand e = true := (inHand_iff e).mpr (.inr hstate)
  rw [htimers]
  exact (abortActive_aborts (s := s.withAnn { s.ann with playTimer := s.ann.playTimer + 1 }) h hhand _).congr rfl rfl rfl

theorem announceTimers_idle {s : State} (h : activeEntry s = none) : announceTimers s = s := by rw [announceTimers, h]

/-- Where no timer runs out, at most the timers move. -/
theorem announceTimers_waits {s : State} {e : Entry} (h : activeEntry s = some e)
    (hcue : e.state = .cued → s.ann.cueTimer + 1 < s.ann.cueTimeout)
    (hplay : e.state = .playing → s.ann.playTimer + 1 < 60000) :
    ∃ c p, announceTimers s = s.withAnn { s.ann with cueTimer := c, playTimer := p } := by
  rw [announceTimers, h]
  dsimp only
  split
  next hcued =>
    have hstate : e.state = .cued := by simp at hcued; exact hcued.1.1
    rw [if_neg (Nat.not_le.mpr (hcue hstate))]
    exact ⟨_, _, rfl⟩
  next =>
    split
    next hplaying =>
      have hmax : ¬Config.maxPlayTime ≤ s.ann.playTimer + 1 := Nat.not_le.mpr (hplay (by simpa using hplaying))
      rw [if_neg hmax]
      exact ⟨_, _, rfl⟩
    next => exact ⟨_, _, rfl⟩

theorem tickUsers_active {s : State} {e : Entry} (h : activeEntry (announceTimers (holdoffTick s)) = some e) :
    tickUsers s = announceTimers (holdoffTick s) := by
  rw [tickUsers_eq, tryCue_none (cueable_active h)]

theorem activeEntry_timers (c p : Nat) (s : State) :
    activeEntry (s.withAnn { s.ann with cueTimer := c, playTimer := p }) = activeEntry s := rfl

/-- Where no timer runs out, an active entry keeps the users of a tick from more than the timers and the holdoffs. -/
theorem tickUsers_waits {s : State} {e : Entry} (h : activeEntry s = some e)
    (hcue : e.state = .cued → s.ann.cueTimer + 1 < s.ann.cueTimeout)
    (hplay : e.state = .playing → s.ann.playTimer + 1 < 60000) :
    ∃ x c p, tickUsers s = (s.withSeats x).withAnn { s.ann with cueTimer := c, playTimer := p } := by
  have hheld : activeEntry (holdoffTick s) = some e := by rw [activeEntry_holdoffTick, h]
  rw [← holdoffTick_ann s] at hcue hplay
  obtain ⟨c, p, hwaits⟩ := announceTimers_waits hheld hcue hplay
  have hactive : activeEntry (announceTimers (holdoffTick s)) = some e := by rw [hwaits, activeEntry_timers, hheld]
  obtain ⟨x, hx, -⟩ := holdoffTick_only s
  refine ⟨x, c, p, ?_⟩
  rw [tickUsers_active hactive, hwaits, holdoffTick_ann, hx]

/-- In a healthy tick the watchdog notes no more than the tick (R9). -/
theorem watchdogTick_healthy {s t : State} (hs : Healthy s) (h : t.dog = s.dog) : ∃ d, watchdogTick t = t.withDog d := by
  obtain ⟨hok, hgood⟩ := hs
  exact ⟨_, watchdogTick_good (by rw [h, hok]) (by rw [h, hgood])⟩

/-- In a healthy tick, an entry that its timers abort stays aborted, in both orders. -/
theorem localTick_aborted {s : State} {e : Entry} {r : Reason} (hs : Healthy s)
    (htimers : ∀ u : State, u.ann = s.ann → u.reports = s.reports → AbortedBy r e u (announceTimers u)) (b : Bool) :
    AbortedBy r e s (localTick b s) := by
  have husers (u : State) (hann : u.ann = s.ann) (hreports : u.reports = s.reports) : AbortedBy r e s (tickUsers u) := by
    have haborted : AbortedBy r e (holdoffTick u) (announceTimers (holdoffTick u)) :=
      htimers _ (by rw [holdoffTick_ann, hann]) (by rw [(holdoffTick_shown u).2.1, hreports])
    rw [tickUsers_active haborted.2.1]
    exact haborted.congr (by rw [(holdoffTick_shown u).2.1, hreports]) rfl rfl
  cases b with
  | true =>
    obtain ⟨d, hdog⟩ := watchdogTick_healthy (t := s.withNow (s.now + 1)) hs rfl
    rw [localTick_true, hdog]
    exact husers _ rfl rfl
  | false =>
    obtain ⟨d, hdog⟩ := watchdogTick_healthy (t := tickUsers (s.withNow (s.now + 1))) hs (tickUsers_frame _).dog
    rw [localTick_false, hdog]
    exact (husers (s.withNow (s.now + 1)) rfl rfl).congr rfl rfl rfl

theorem endsWith_of {s t : State} {e : Entry} {r : Reason} {st : EntryState} (h : activeEntry s = some e)
    (hstate : e.state = st) (hended : AbortedBy r e s t) : endsWith st r s t = true := by
  rw [endsWith, announceState_of h, announceState_of hended.2.1, hended.2.1, hstate]
  simp

/-- Settles O35. -/
theorem timersAbortTheActiveEntry : Obligations.TimersAbortTheActiveEntry := by
  refine ⟨fun b s e hs hhealthy hactive hstate hclip hplan hdue => ?timeout,
    fun b s e hs hhealthy hactive hstate hdue => ?maxTime⟩
  case timeout =>
    have haborted : AbortedBy .timeout e s (localTick b s) := localTick_aborted hhealthy (fun u hann _ =>
      announceTimers_timeout ((activeEntry_congr (congrArg Announcer.queue hann)).trans hactive) hstate hclip hplan
        (by rw [hann]; exact hdue)) b
    rw [← tickEvent_eq b hs] at haborted
    exact ⟨_, occurrence_due (endsWith_of hactive hstate haborted) hs, haborted⟩
  case maxTime =>
    have haborted : AbortedBy .maxTime e s (localTick b s) := localTick_aborted hhealthy (fun u hann _ =>
      announceTimers_maxTime ((activeEntry_congr (congrArg Announcer.queue hann)).trans hactive) hstate
        (by rw [hann]; omega)) b
    rw [← tickEvent_eq b hs] at haborted
    exact ⟨_, occurrence_due (endsWith_of hactive hstate haborted) hs, haborted⟩

/-! ## The fall and the rise of health (R11, R12) -/

/-- No cue acts on ANNOUNCE_CUED. -/
def CuedUnscanned (s : State) : Prop := ∀ (u : State) (n : Nat), u.cues = s.cues → raise ⟨.announceCued, n⟩ u = u

theorem QuietCues.unscanned {s : State} (h : QuietCues s) : CuedUnscanned s := fun _ _ hu => raise_quiet (h.congr hu) _

theorem OneCue.unscanned {j : Fin 32} {k : TriggerKind} {param : Nat} {a : CueAction} {s : State}
    (h : OneCue j k param a s) (hk : k ≠ .announceCued) : CuedUnscanned s :=
  fun _ _ hu => raise_other (h.congr hu) hk

theorem CuedUnscanned.congr {s t : State} (hs : CuedUnscanned s) (h : t.cues = s.cues) : CuedUnscanned t :=
  fun u n hu => hs u n (hu.trans h)

theorem tryCue_of_unscanned {s : State} (h : CuedUnscanned s) : tryCue s = cueNext s := tryCue_unscanned h

theorem tickUsers_unscanned {s : State} (h : CuedUnscanned s) : TouchesAnn (holdoffTick s) (tickUsers s) := by
  have hcues : (announceTimers (holdoffTick s)).cues = s.cues := by
    rw [(announceTimers_frame _).effects.cues, (holdoffTick_shown s).2.2.2.2.2.1]
  rw [tickUsers_eq, tryCue_of_unscanned (h.congr hcues)]
  exact (announceTimers_frame _).trans (cueNext_frame _)

/-- The state as health's fall is raised to the cue unit. -/
def fallTold (s : State) : State :=
  (abortActive .trunk (setCause .trunkLost (fallen s))).withLights (retarget .ok .lost s.lights s.lights)

theorem healthFalls_eq (s : State) : healthFalls s = raise ⟨.trunkLost, 0⟩ (fallTold s) := by
  have hlights : (abortActive .trunk (setCause .trunkLost (fallen s))).lights = s.lights :=
    (abortActive_frame _ _).lights
  rw [fallTold, ← hlights]
  rfl

theorem fallTold_cues (s : State) : (fallTold s).cues = s.cues := (abortActive_frame .trunk _).effects.cues

/-- The state as health's rise is raised to the cue unit. -/
def riseTold (s : State) : State :=
  (setCause .trunkRestored (s.withDog ⟨.ok, 0, 0, false⟩)).withLights (retarget .lost .ok s.lights s.lights)

theorem healthRises_eq (s : State) :
    healthRises s = tryCue (raise ⟨.trunkRestored, 0⟩ (tryCue (riseTold s))) := rfl

theorem retarget_zone (h h' : Health) (l : Lights) (i : Fin 16) : (retarget h h' l l).zones[i] =
    if l.zones[i].overlay.isNone && floored h l.floor l.zones[i].base != floored h' l.floor l.zones[i].base
    then releaseZone h' l l.zones[i] else l.zones[i] := by
  unfold retarget; dsimp only; rw [mapTable_get]

/-- The zones at a fall: the release step toward the floor, where the base level lies below it (R165, R166). -/
theorem retarget_fall (l : Lights) (i : Fin 16) : (retarget .ok .lost l l).zones[i] =
    if l.zones[i].overlay = none ∧ l.zones[i].base < l.floor then
      { l.zones[i] with fadeStep := stepTo l.release l.floor l.zones[i].current }
    else l.zones[i] := by
  have hchanges : (l.zones[i].overlay.isNone && floored .ok l.floor l.zones[i].base != floored .lost l.floor l.zones[i].base)
      = true ↔ l.zones[i].overlay = none ∧ l.zones[i].base < l.floor := by
    rw [Bool.and_eq_true, Option.isNone_iff_eq_none, bne_iff_ne]
    refine and_congr_right fun _ => ?_
    change l.zones[i].base ≠ max l.zones[i].base l.floor ↔ _
    omega
  rw [retarget_zone]
  by_cases hdue : l.zones[i].overlay = none ∧ l.zones[i].base < l.floor
  · have htarget : floored .lost l.floor l.zones[i].base = l.floor := Nat.max_eq_right (Nat.le_of_lt hdue.2)
    rw [if_pos (hchanges.mpr hdue), if_pos hdue, releaseZone, htarget, stepTo_eq]
  · rw [if_neg (mt hchanges.mp hdue), if_neg hdue]

/-- The zones at a rise: the release step back to the base level, where that lies below the floor (R165, R166). -/
theorem retarget_rise (l : Lights) (i : Fin 16) : (retarget .lost .ok l l).zones[i] =
    if l.zones[i].overlay = none ∧ l.zones[i].base < l.floor then
      { l.zones[i] with fadeStep := stepTo l.release l.zones[i].base l.zones[i].current }
    else l.zones[i] := by
  have hchanges : (l.zones[i].overlay.isNone && floored .lost l.floor l.zones[i].base != floored .ok l.floor l.zones[i].base)
      = true ↔ l.zones[i].overlay = none ∧ l.zones[i].base < l.floor := by
    rw [Bool.and_eq_true, Option.isNone_iff_eq_none, bne_iff_ne]
    refine and_congr_right fun _ => ?_
    change max l.zones[i].base l.floor ≠ l.zones[i].base ↔ _
    omega
  rw [retarget_zone]
  by_cases hdue : l.zones[i].overlay = none ∧ l.zones[i].base < l.floor
  · rw [if_pos (hchanges.mpr hdue), if_pos hdue, releaseZone, stepTo_eq]; rfl
  · rw [if_neg (mt hchanges.mp hdue), if_neg hdue]

theorem tickUsers_keepsDog (s : State) : (tickUsers s).dog = s.dog := (tickUsers_frame s).dog

/-- A local tick in which health falls is a fall between the other users of the tick and the advanced time. -/
theorem localTick_falls {s : State} (hok : s.dog.health = .ok) (hgood : s.dog.goodInTick = false)
    (hrun : s.dog.silentRun = 19) (b : Bool) :
    localTick b s = if b then tickUsers (healthFalls (s.withNow (s.now + 1)))
      else healthFalls (tickUsers (s.withNow (s.now + 1))) := by
  have hfalls (u : State) (hu : u.dog = s.dog) : watchdogTick u = healthFalls u :=
    watchdogTick_falls (by rw [hu, hok]) (by rw [hu, hgood]) (by rw [hu, hrun]; decide)
  cases b with
  | true => rw [localTick_true, hfalls (s.withNow (s.now + 1)) rfl, if_pos rfl]
  | false =>
    have hdog : (tickUsers (s.withNow (s.now + 1))).dog = s.dog := by rw [tickUsers_keepsDog]; rfl
    rw [localTick_false, hfalls _ hdog, if_neg Bool.false_ne_true]

theorem localTick_rises {s : State} (hlost : s.dog.health = .lost) (hgood : s.dog.goodInTick = true)
    (hrun : s.dog.restoreRun = 199) (b : Bool) :
    localTick b s = if b then tickUsers (healthRises (s.withNow (s.now + 1)))
      else healthRises (tickUsers (s.withNow (s.now + 1))) := by
  have hrises (u : State) (hu : u.dog = s.dog) : watchdogTick u = healthRises u :=
    watchdogTick_rises (by rw [hu, hlost]) (by rw [hu, hgood]) (by rw [hu, hrun]; decide)
  cases b with
  | true => rw [localTick_true, hrises (s.withNow (s.now + 1)) rfl, if_pos rfl]
  | false =>
    have hdog : (tickUsers (s.withNow (s.now + 1))).dog = s.dog := by rw [tickUsers_keepsDog]; rfl
    rw [localTick_false, hrises _ hdog, if_neg Bool.false_ne_true]

/-- What of the lights and the PA source a change of health leaves to the other users of its tick. -/
theorem tickUsers_shown {s : State} (h : CuedUnscanned s) :
    (tickUsers s).lights = s.lights ∧ (tickUsers s).seats.paSource = s.seats.paSource := by
  have hframe := tickUsers_unscanned h
  rw [hframe.lights, hframe.seats]
  exact ⟨(holdoffTick_shown s).1, (holdoffTick_shown s).2.2.1⟩

theorem healthFalls_cues (s : State) : (healthFalls s).cues = s.cues := (healthFalls_from s).cues

theorem healthRises_cues (s : State) : (healthRises s).cues = s.cues := (healthRises_from s).cues

theorem tickUsers_cues (s : State) : (tickUsers s).cues = s.cues := (tickUsers_frame s).cues

/-- With no cue enabled a fall is what is told of it. -/
theorem healthFalls_quiet {s : State} (h : QuietCues s) : healthFalls s = fallTold s := by
  rw [healthFalls_eq, raise_quiet (h.congr (fallTold_cues s))]

theorem fallTold_aborts {s : State} {e : Entry} (h : activeEntry s = some e) (hhand : inHand e = true) :
    AbortedBy .trunk e s (fallTold s) :=
  (abortActive_aborts (s := setCause .trunkLost (fallen s)) h hhand .trunk).congr rfl rfl rfl

theorem raise_one_paSource {j : Fin 32} {k : TriggerKind} {q : PaSource} {s : State} (h : OneCue j k 0 (.paSource q) s) :
    (raise ⟨k, 0⟩ s).seats.paSource = q := by
  rw [raise_one h rfl (.inr rfl)]; rfl

theorem healthFalls_paSource {j : Fin 32} {q : PaSource} {s : State} (h : OneCue j .trunkLost 0 (.paSource q) s) :
    (healthFalls s).seats.paSource = q := by
  rw [healthFalls_eq]; exact raise_one_paSource (h.congr (fallTold_cues s))

theorem healthRises_paSource {j : Fin 32} {q : PaSource} {s : State} (h : OneCue j .trunkRestored 0 (.paSource q) s) :
    (healthRises s).seats.paSource = q := by
  have htold : (tryCue (riseTold s)).cues = s.cues := (tryCue_frame _).cues
  have hraised : (raise ⟨.trunkRestored, 0⟩ (tryCue (riseTold s))).cues = s.cues := (raise_frame _ _).cues.trans htold
  rw [healthRises_eq, tryCue_of_unscanned ((h.unscanned (by decide)).congr hraised), (cueNext_frame _).seats]
  exact raise_one_paSource (h.congr htold)

/-- With no cue enabled a rise cues the front entry where it may go. -/
theorem healthRises_quiet {s : State} (h : QuietCues s) : healthRises s = cueNext (cueNext (riseTold s)) := by
  have htold : (cueNext (riseTold s)).cues = s.cues := (cueNext_frame _).effects.cues
  rw [healthRises_eq, tryCue_quiet (h.congr (t := riseTold s) rfl), raise_quiet (h.congr htold), tryCue_quiet (h.congr htold)]

theorem cueNext_front {s : State} {e : Entry} (h : cueable s = some e) : cueNext s = (cueEntry e s).1 := by
  rw [cueNext, h]

theorem cueStarted_timers (e : Entry) (s : State) :
    (cueStarted e s).ann.cueTimer = 0 ∧ (cueStarted e s).ann.cueTimeout = s.ann.cueTimeout := by
  rw [cueStarted_ann]; exact ⟨rfl, rfl⟩

/-- The front entry is CUED in the rise, its cue timer at 0. -/
theorem healthRises_cued {s : State} {e : Entry} {q : List Entry} (hquiet : QuietCues s) (hqueue : s.ann.queue = e :: q)
    (hidle : activeEntry s = none) (hgo : ∀ n, e.notBefore = some n → n ≤ s.now) (hplan : buildPlan s ≠ []) :
    activeEntry (healthRises s) = some (cuedEntry (nextTicket s.ann.ticket) (buildPlan s) e) ∧
      (healthRises s).ann.cueTimer = 0 ∧ (healthRises s).ann.cueTimeout = s.ann.cueTimeout := by
  have hplanned : buildPlan (riseTold s) = buildPlan s := buildPlan_congr rfl rfl rfl fun _ => ⟨rfl, rfl⟩
  have hcueable : cueable (riseTold s) = some e := cueable_front hqueue hidle rfl hgo
  have hspeaks : ¬cueMute e (riseTold s) := fun hmute => hplan (hplanned ▸ hmute.1)
  have hactive := activeEntry_cueStarted (s := riseTold s) (e := e) hqueue
  rw [hplanned] at hactive
  rw [healthRises_quiet hquiet, cueNext_front hcueable, cueEntry_speaking hspeaks, cueNext_none (cueable_active hactive)]
  exact ⟨hactive, cueStarted_timers e (riseTold s)⟩

theorem healthLeaves_of {h h' : Health} {s t : State} (hs : s.dog.health = h) (ht : t.dog.health = h') (hne : h' ≠ h) :
    healthLeaves h s t = true := by
  rw [healthLeaves, hs, ht]
  simp [hne]

/-- The dog, the store and the cause of a fall, whatever else its tick brings. -/
theorem localTick_fall_facts {s : State} (hok : s.dog.health = .ok) (hgood : s.dog.goodInTick = false)
    (hrun : s.dog.silentRun = 19) (b : Bool) :
    (localTick b s).dog = ⟨.lost, 0, 0, false⟩ ∧ (localTick b s).store = ⟨[], false, s.store.last⟩ ∧
      (localTick b s).notices.causes.getLsbD 0 = true := by
  have hcause (u : State) : (healthFalls u).notices.causes.getLsbD 0 = true :=
    (healthFalls_keeps u).1 0 (setCause_sets .trunkLost u)
  rw [localTick_falls hok hgood hrun]
  cases b with
  | true =>
    rw [if_pos rfl, (tickUsers_frame _).dog, (tickUsers_frame _).store]
    exact ⟨(healthFalls_from _).dog, (healthFalls_from _).store, (tickUsers_keeps _).1 0 (hcause _)⟩
  | false =>
    rw [if_neg Bool.false_ne_true, (healthFalls_from _).dog, (healthFalls_from _).store]
    refine ⟨rfl, ?_, hcause _⟩
    change (⟨[], false, (tickUsers (s.withNow (s.now + 1))).store.last⟩ : Store) = _
    rw [(tickUsers_frame _).store]
    rfl

theorem localTick_rise_facts {s : State} (hlost : s.dog.health = .lost) (hgood : s.dog.goodInTick = true)
    (hrun : s.dog.restoreRun = 199) (b : Bool) :
    (localTick b s).dog = ⟨.ok, 0, 0, false⟩ ∧ (localTick b s).store = s.store ∧
      (localTick b s).notices.causes.getLsbD 1 = true := by
  have hcause (u : State) : (healthRises u).notices.causes.getLsbD 1 = true :=
    (healthRises_keeps u).1 1 (setCause_sets .trunkRestored u)
  rw [localTick_rises hlost hgood hrun]
  cases b with
  | true =>
    rw [if_pos rfl, (tickUsers_frame _).dog, (tickUsers_frame _).store]
    exact ⟨(healthRises_from _).dog, (healthRises_from _).store, (tickUsers_keeps _).1 1 (hcause _)⟩
  | false =>
    rw [if_neg Bool.false_ne_true, (healthRises_from _).dog, (healthRises_from _).store]
    exact ⟨rfl, (tickUsers_frame _).store, hcause _⟩

/-- With no cue enabled the zones are those of the fall, in both orders. -/
theorem localTick_fall_lights {s : State} (hok : s.dog.health = .ok) (hgood : s.dog.goodInTick = false)
    (hrun : s.dog.silentRun = 19) (hquiet : QuietCues s) (b : Bool) :
    (localTick b s).lights = retarget .ok .lost s.lights s.lights := by
  rw [localTick_falls hok hgood hrun]
  cases b with
  | true =>
    have hquiet' : QuietCues (s.withNow (s.now + 1)) := hquiet.congr rfl
    rw [if_pos rfl, (tickUsers_shown (hquiet'.congr (healthFalls_cues _)).unscanned).1, healthFalls_quiet hquiet']
    rfl
  | false =>
    have hquiet' : QuietCues (s.withNow (s.now + 1)) := hquiet.congr rfl
    rw [if_neg Bool.false_ne_true, healthFalls_quiet (hquiet'.congr (tickUsers_cues _))]
    change retarget .ok .lost (tickUsers (s.withNow (s.now + 1))).lights (tickUsers (s.withNow (s.now + 1))).lights = _
    rw [(tickUsers_shown hquiet'.unscanned).1]
    rfl

theorem localTick_rise_lights {s : State} (hlost : s.dog.health = .lost) (hgood : s.dog.goodInTick = true)
    (hrun : s.dog.restoreRun = 199) (hquiet : QuietCues s) (b : Bool) :
    (localTick b s).lights = retarget .lost .ok s.lights s.lights := by
  rw [localTick_rises hlost hgood hrun]
  have hrise (u : State) (hu : QuietCues u) : (healthRises u).lights = retarget .lost .ok u.lights u.lights := by
    rw [healthRises_quiet hu, (cueNext_frame _).lights, (cueNext_frame _).lights]
    rfl
  cases b with
  | true =>
    have hquiet' : QuietCues (s.withNow (s.now + 1)) := hquiet.congr rfl
    rw [if_pos rfl, (tickUsers_shown (hquiet'.congr (healthRises_cues _)).unscanned).1, hrise _ hquiet']
    rfl
  | false =>
    have hquiet' : QuietCues (s.withNow (s.now + 1)) := hquiet.congr rfl
    rw [if_neg Bool.false_ne_true, hrise _ (hquiet'.congr (tickUsers_cues _)), (tickUsers_shown hquiet'.unscanned).1]
    rfl

/-- With no cue enabled the entry in hand is aborted by the fall; in the order that lets the timers act first, where none
of them runs out. -/
theorem localTick_fall_aborts {s : State} (hok : s.dog.health = .ok) (hgood : s.dog.goodInTick = false)
    (hrun : s.dog.silentRun = 19) (hquiet : QuietCues s) {e : Entry} (hactive : activeEntry s = some e)
    (hhand : inHand e = true) {b : Bool}
    (htimers : b = true ∨ s.ann.cueTimer + 1 < s.ann.cueTimeout ∧ s.ann.playTimer + 1 < 60000) :
    AbortedBy .trunk e s (localTick b s) := by
  rw [localTick_falls hok hgood hrun]
  cases b with
  | true =>
    have hquiet' : QuietCues (s.withNow (s.now + 1)) := hquiet.congr rfl
    have haborts : AbortedBy .trunk e s (fallTold (s.withNow (s.now + 1))) :=
      (fallTold_aborts (s := s.withNow (s.now + 1)) hactive hhand).congr rfl rfl rfl
    rw [if_pos rfl, healthFalls_quiet hquiet']
    generalize fallTold (s.withNow (s.now + 1)) = u at haborts
    obtain ⟨x, c, p, hwaits⟩ := tickUsers_waits haborts.2.1 (fun h => by cases h) (fun h => by cases h)
    rw [hwaits]
    exact haborts
  | false =>
    obtain ⟨hcue, hplay⟩ := htimers.resolve_left Bool.false_ne_true
    obtain ⟨x, c, p, hwaits⟩ := tickUsers_waits (s := s.withNow (s.now + 1)) hactive (fun _ => hcue) (fun _ => hplay)
    have hheld : activeEntry (((s.withNow (s.now + 1)).withSeats x).withAnn
        { s.ann with cueTimer := c, playTimer := p }) = some e := hactive
    have hquiet' : QuietCues (tickUsers (s.withNow (s.now + 1))) := hquiet.congr (tickUsers_cues (s.withNow (s.now + 1)))
    rw [if_neg Bool.false_ne_true, healthFalls_quiet hquiet', hwaits]
    exact (fallTold_aborts hheld hhand).congr rfl rfl rfl

/-- With no cue enabled the front entry that may go is CUED by the rise, and stays so in its tick. -/
theorem localTick_rise_cues {s : State} (hlost : s.dog.health = .lost) (hgood : s.dog.goodInTick = true)
    (hrun : s.dog.restoreRun = 199) (hquiet : QuietCues s) {e : Entry} {q : List Entry} (hqueue : s.ann.queue = e :: q)
    (hidle : activeEntry s = none) (hgo : ∀ n, e.notBefore = some n → n ≤ s.now + 1) (hplan : buildPlan s ≠ [])
    (htimeout : 2 ≤ s.ann.cueTimeout) (b : Bool) :
    activeEntry (localTick b s) = some (cuedEntry (nextTicket s.ann.ticket) (buildPlan s) e) := by
  have hquiet' : QuietCues (s.withNow (s.now + 1)) := hquiet.congr rfl
  rw [localTick_rises hlost hgood hrun]
  cases b with
  | true =>
    have hplanned : buildPlan (s.withNow (s.now + 1)) = buildPlan s := buildPlan_congr rfl rfl rfl fun _ => ⟨rfl, rfl⟩
    have hplan' : buildPlan (s.withNow (s.now + 1)) ≠ [] := by rw [hplanned]; exact hplan
    obtain ⟨hactive, htimer, hlimit⟩ := healthRises_cued hquiet' hqueue hidle hgo hplan'
    rw [hplanned] at hactive
    rw [if_pos rfl]
    generalize healthRises (s.withNow (s.now + 1)) = u at *
    obtain ⟨x, c, p, hwaits⟩ := tickUsers_waits hactive (fun _ => by rw [htimer, hlimit]; exact htimeout)
      (fun h => by cases h)
    rw [hwaits]
    exact (activeEntry_congr rfl).trans hactive
  | false =>
    have husers : tickUsers (s.withNow (s.now + 1)) = holdoffTick (s.withNow (s.now + 1)) := by
      have htimers : announceTimers (holdoffTick (s.withNow (s.now + 1))) = holdoffTick (s.withNow (s.now + 1)) :=
        announceTimers_idle (by rw [activeEntry_holdoffTick]; exact hidle)
      have hhealth : (holdoffTick (s.withNow (s.now + 1))).dog = s.dog := (holdoffTick_shown _).2.2.2.2.2.2.2
      rw [tickUsers_eq, htimers, tryCue_none (cueable_lost (by rw [hhealth]; exact hlost))]
    obtain ⟨-, -, hsource, hprog, hlines, hcues, hnow, -⟩ := holdoffTick_shown (s.withNow (s.now + 1))
    have hann : (holdoffTick (s.withNow (s.now + 1))).ann = s.ann := holdoffTick_ann _
    have hplanned : buildPlan (holdoffTick (s.withNow (s.now + 1))) = buildPlan s :=
      buildPlan_congr hprog hlines hsource fun i => by rw [holdoffTick_record]; exact ⟨rfl, rfl⟩
    rw [if_neg Bool.false_ne_true, husers]
    have hcued := (healthRises_cued (s := holdoffTick (s.withNow (s.now + 1))) (hquiet.congr hcues)
      (by rw [hann]; exact hqueue) (by rw [activeEntry_holdoffTick]; exact hidle) (by rw [hnow]; exact hgo)
      (by rw [hplanned]; exact hplan)).1
    rw [hplanned, hann] at hcued
    exact hcued

/-- Settles O13. -/
theorem healthFallsAndRises : Obligations.HealthFallsAndRises := by
  refine ⟨fun b s hs => ?dog, fun b s hs hok hgood hrun => ?falls, fun b s hs hlost hgood hrun => ?rises⟩
  case dog =>
    refine ⟨localTick b s, exec_localTick b hs, ?_⟩
    cases b with
    | true => rw [localTick_true, tickUsers_keepsDog]; exact watchdogTick_dog _
    | false => rw [localTick_false, watchdogTick_dog, tickUsers_keepsDog]; rfl
  case falls =>
    obtain ⟨hdog, hstore, hcause⟩ := localTick_fall_facts hok hgood hrun b
    have hdue : healthLeaves .ok s (tickEvent b s) = true := by
      rw [tickEvent_eq b hs]; exact healthLeaves_of hok (by rw [hdog]) (by decide)
    have hexec : exec (.healthLost b) s = .next (localTick b s) :=
      (occurrence_due hdue hs).trans (congrArg Host.Outcome.next (tickEvent_eq b hs))
    refine ⟨⟨_, hexec, hdog, hstore, hcause, ?_⟩, fun hquiet => ⟨_, hexec, fun i => ?_, fun e hactive hstate htimers => ?_⟩,
      fun j q hone => ⟨_, hexec, ?_⟩⟩
    · have hframe := localTick_frame b s
      generalize localTick b s = t at *
      unfold TouchesTick at hframe
      rw [hframe]
      exact ⟨rfl, rfl, rfl, rfl, rfl⟩
    · rw [localTick_fall_lights hok hgood hrun hquiet]; exact retarget_fall _ i
    · exact localTick_fall_aborts hok hgood hrun hquiet hactive ((inHand_iff e).mpr hstate) htimers
    · rw [localTick_falls hok hgood hrun]
      cases b with
      | true =>
        have hone' : OneCue j .trunkLost 0 (.paSource q) (s.withNow (s.now + 1)) := hone.congr rfl
        have hafter := (hone'.unscanned (by decide)).congr (healthFalls_cues (s.withNow (s.now + 1)))
        rw [if_pos rfl, (tickUsers_shown hafter).2, healthFalls_paSource hone']
      | false => rw [if_neg Bool.false_ne_true]; exact healthFalls_paSource (hone.congr (tickUsers_cues _))
  case rises =>
    obtain ⟨hdog, hstore, hcause⟩ := localTick_rise_facts hlost hgood hrun b
    have hdue : healthLeaves .lost s (tickEvent b s) = true := by
      rw [tickEvent_eq b hs]; exact healthLeaves_of hlost (by rw [hdog]) (by decide)
    have hexec : exec (.healthRestored b) s = .next (localTick b s) :=
      (occurrence_due hdue hs).trans (congrArg Host.Outcome.next (tickEvent_eq b hs))
    refine ⟨⟨_, hexec, hdog, hstore, hcause, ?_⟩,
      fun hquiet => ⟨_, hexec, fun i => ?_, fun e q hqueue hidle hgo hplan htimeout => ?_⟩, fun j q hone => ⟨_, hexec, ?_⟩⟩
    · have hframe := localTick_frame b s
      generalize localTick b s = t at *
      unfold TouchesTick at hframe
      rw [hframe]
      exact ⟨rfl, rfl, rfl⟩
    · rw [localTick_rise_lights hlost hgood hrun hquiet]; exact retarget_rise _ i
    · have hactive := localTick_rise_cues hlost hgood hrun hquiet hqueue hidle hgo hplan htimeout b
      rw [announceState_of hactive, hactive]
      exact ⟨rfl, rfl⟩
    · rw [localTick_rises hlost hgood hrun]
      cases b with
      | true =>
        have hone' : OneCue j .trunkRestored 0 (.paSource q) (s.withNow (s.now + 1)) := hone.congr rfl
        have hafter := (hone'.unscanned (by decide)).congr (healthRises_cues (s.withNow (s.now + 1)))
        rw [if_pos rfl, (tickUsers_shown hafter).2, healthRises_paSource hone']
      | false => rw [if_neg Bool.false_ne_true]; exact healthRises_paSource (hone.congr (tickUsers_cues _))

end Sys2Proof.Machine

/-! # Proofs: the cue of the front entry and its plan (O34) -/

namespace Sys2Proof.Machine

set_option Elab.async false

/-! ## The lanes that the plan gives out (R142) -/

section Plan

variable {p : Programme}

/-- A pair of a plan. -/
def pairWith (t : Nat) (i : Fin 12) : PlanPair := ⟨t, i⟩

theorem homeLane_tag {free : List (Fin 12)} {t : Nat} {i : Fin 12} (h : homeLane p free t = some i) :
    p.lanes[i].tag = t := by
  have htag := List.find?_some h
  exact of_decide_eq_true htag

/-- A lane of another tag is no other language's home. -/
theorem homeLane_erase {free : List (Fin 12)} {t : Nat} {i : Fin 12} (h : p.lanes[i].tag ≠ t) :
    homeLane p (free.erase i) t = homeLane p free t := by
  unfold homeLane
  induction free with
  | nil => rfl
  | cons j free ih =>
    by_cases hj : j = i
    · subst hj
      rw [List.erase_cons_head, List.find?_cons_of_neg (by simpa using h)]
    · rw [List.erase_cons_tail (by simpa using hj), List.find?_cons, List.find?_cons, ih]

/-- The homes given out to the languages of a list. -/
def homePairs (p : Programme) (free : List (Fin 12)) (l : List Nat) : List PlanPair :=
  l.filterMap fun t => (homeLane p free t).map (pairWith t)

/-- The lanes that are no home of the languages of a list. -/
def spareLanes (p : Programme) (free : List (Fin 12)) (l : List Nat) : List (Fin 12) :=
  free.filter fun i => l.all fun t => decide (homeLane p free t ≠ some i)

/-- Step 2 of R142: every language takes its home, and the homes are no longer free. -/
theorem foldl_giveHome {l : List Nat} (hl : l.Nodup) (acc : List PlanPair) {free : List (Fin 12)} (hfree : free.Nodup) :
    l.foldl (giveHome p) (acc, free) = (acc ++ homePairs p free l, spareLanes p free l) := by
  induction l generalizing acc free with
  | nil => simp [homePairs, spareLanes]
  | cons t l ih =>
    obtain ⟨hnew, hl'⟩ := List.nodup_cons.mp hl
    rw [List.foldl_cons]
    cases hhome : homeLane p free t with
    | none =>
      have hstep : giveHome p (acc, free) t = (acc, free) := by rw [giveHome]; dsimp only; rw [hhome]
      rw [hstep, ih hl' acc hfree]
      simp [homePairs, spareLanes, hhome]
    | some i =>
      have hstep : giveHome p (acc, free) t = (acc ++ [pairWith t i], free.erase i) := by
        rw [giveHome]; dsimp only; rw [hhome]; rfl
      have hsame (t' : Nat) (ht' : t' ∈ l) : homeLane p (free.erase i) t' = homeLane p free t' :=
        homeLane_erase (by rw [homeLane_tag hhome]; exact fun h => hnew (h ▸ ht'))
      have hpairs : homePairs p (free.erase i) l = homePairs p free l :=
        List.filterMap_congr fun t' ht' => by rw [hsame t' ht']
      have hspare : spareLanes p (free.erase i) l = spareLanes p free (t :: l) := by
        unfold spareLanes
        rw [hfree.erase_eq_filter, List.filter_filter]
        refine List.filter_congr fun j _ => ?_
        rw [List.all_cons, hhome]
        have hrest : (l.all fun t' => decide (homeLane p (free.filter fun x => x != i) t' ≠ some j)) =
            l.all fun t' => decide (homeLane p free t' ≠ some j) := by
          rw [← hfree.erase_eq_filter]
          exact Bool.eq_iff_iff.mpr (by
            rw [List.all_eq_true, List.all_eq_true]
            exact forall₂_congr fun t' ht' => by rw [hsame t' ht'])
        rw [hrest, Bool.and_comm]
        congr 1
        by_cases hj : j = i
        · simp [hj]
        · simp [hj, Ne.symm hj]
      rw [hstep, ih hl' _ (hfree.erase i), hpairs, hspare]
      simp [homePairs, hhome]

/-- Whether a language has its pair. -/
def hasPair (acc : List PlanPair) (t : Nat) : Bool := acc.any fun q => q.language == t

/-- Step 3 of R142: the languages without a lane take the free ones in order, while they last. -/
theorem foldl_giveFree {l : List Nat} (hl : l.Nodup) (acc : List PlanPair) (free : List (Fin 12)) :
    (l.foldl giveFree (acc, free)).1 = acc ++ List.zipWith pairWith (l.filter fun t => !hasPair acc t) free := by
  induction l generalizing acc free with
  | nil => simp
  | cons t l ih =>
    obtain ⟨hnew, hl'⟩ := List.nodup_cons.mp hl
    rw [List.foldl_cons]
    cases hhas : hasPair acc t with
    | true =>
      have hstep : giveFree (acc, free) t = (acc, free) := by rw [giveFree]; exact if_pos hhas
      rw [hstep, ih hl', List.filter_cons_of_neg (by simp [hhas])]
    | false =>
      rw [List.filter_cons_of_pos (by simp [hhas])]
      cases free with
      | nil =>
        have hstep : giveFree (acc, []) t = (acc, []) := by
          rw [giveFree]; exact if_neg (by rw [← hasPair, hhas]; exact Bool.false_ne_true)
        rw [hstep, ih hl', List.zipWith_nil_right, List.zipWith_nil_right]
      | cons i free =>
        have hstep : giveFree (acc, i :: free) t = (acc ++ [pairWith t i], free) := by
          rw [giveFree]; exact if_neg (by rw [← hasPair, hhas]; exact Bool.false_ne_true)
        have hrest : (l.filter fun t' => !hasPair (acc ++ [pairWith t i]) t') = l.filter fun t' => !hasPair acc t' :=
          List.filter_congr fun t' ht' => by
            have hne : t ≠ t' := fun h => hnew (h ▸ ht')
            simp [hasPair, pairWith, hne]
        rw [hstep, ih hl', hrest]
        simp

theorem find?_homePairs (free : List (Fin 12)) (l : List Nat) (t : Nat) :
    (homePairs p free l).find? (fun q => q.language == t) =
      if t ∈ l then (homeLane p free t).map (pairWith t) else none := by
  induction l with
  | nil => rfl
  | cons t' l ih =>
    rw [homePairs, List.filterMap_cons, ← homePairs]
    cases hhome : homeLane p free t' with
    | none =>
      change (homePairs p free l).find? _ = _
      rw [ih]
      by_cases ht : t = t'
      · subst ht; simp [hhome]
      · simp [ht]
    | some i =>
      change (pairWith t' i :: homePairs p free l).find? _ = _
      by_cases ht : t = t'
      · subst ht
        rw [List.find?_cons_of_pos (by simp [pairWith]), if_pos List.mem_cons_self, hhome]
        rfl
      · rw [List.find?_cons_of_neg (by simp [pairWith, Ne.symm ht]), ih]
        simp [ht]

theorem find?_zipWith_pairWith (l : List Nat) (free : List (Fin 12)) {t : Nat} (ht : t ∈ l) :
    (List.zipWith pairWith l free).find? (fun q => q.language == t) = free[l.idxOf t]?.map (pairWith t) := by
  induction l generalizing free with
  | nil => exact absurd ht List.not_mem_nil
  | cons t' l ih =>
    cases free with
    | nil => simp
    | cons i free =>
      rw [List.zipWith_cons_cons]
      by_cases h : t' = t
      · subst h
        rw [List.find?_cons_of_pos (by simp [pairWith]), List.idxOf_cons_self]
        rfl
      · rw [List.find?_cons_of_neg (by simp [pairWith, h]), ih free ((List.mem_cons.mp ht).resolve_left (Ne.symm h)),
          List.idxOf_cons_ne _ h]
        rfl

theorem announceLanes_nodup (p : Programme) : (announceLanes p).Nodup := (List.nodup_finRange 12).filter _

/-- The pairs that the three steps give out, the default language's lane being `first`. -/
theorem givePairs_eq {d : Nat} {others : List Nat} (hnodup : (d :: others).Nodup) {first : Fin 12}
    (hfirst : (homeLane p (announceLanes p) d).or (announceLanes p).head? = some first) :
    givePairs p d others = pairWith d first :: (homePairs p ((announceLanes p).erase first) others ++
      List.zipWith pairWith (others.filter fun t => decide (homeLane p ((announceLanes p).erase first) t = none))
        (spareLanes p ((announceLanes p).erase first) others)) := by
  obtain ⟨hnew, hothers⟩ := List.nodup_cons.mp hnodup
  have hhomeless : (others.filter fun t => !hasPair ([⟨d, first⟩] ++ homePairs p ((announceLanes p).erase first) others) t) =
      others.filter fun t => decide (homeLane p ((announceLanes p).erase first) t = none) := by
    refine List.filter_congr fun t ht => ?_
    have hne : d ≠ t := fun h => hnew (h ▸ ht)
    have hfound := find?_homePairs (p := p) ((announceLanes p).erase first) others t
    rw [if_pos ht] at hfound
    have hany : hasPair (homePairs p ((announceLanes p).erase first) others) t =
        (homeLane p ((announceLanes p).erase first) t).isSome := by
      rw [hasPair, ← List.isSome_find?, hfound, Option.isSome_map]
    have hcons : hasPair ([⟨d, first⟩] ++ homePairs p ((announceLanes p).erase first) others) t =
        hasPair (homePairs p ((announceLanes p).erase first) others) t := by simp [hasPair, hne]
    rw [hcons, hany]
    cases homeLane p ((announceLanes p).erase first) t <;> rfl
  unfold givePairs
  dsimp only
  rw [hfirst]
  dsimp only
  rw [foldl_giveHome hothers _ ((announceLanes_nodup p).erase first), foldl_giveFree hothers, hhomeless]
  rfl

/-- The lane of a needed language but the default: its home, or else a spare lane. -/
theorem find?_givePairs {d : Nat} {others : List Nat} (hnodup : (d :: others).Nodup) {first : Fin 12}
    (hfirst : (homeLane p (announceLanes p) d).or (announceLanes p).head? = some first) {t : Nat} (ht : t ∈ others) :
    (givePairs p d others).find? (fun q => q.language == t) =
      match homeLane p ((announceLanes p).erase first) t with
      | some i => some (pairWith t i)
      | none => (spareLanes p ((announceLanes p).erase first) others)[(others.filter fun t =>
          decide (homeLane p ((announceLanes p).erase first) t = none)).idxOf t]?.map (pairWith t) := by
  have hne : d ≠ t := fun h => (List.nodup_cons.mp hnodup).1 (h ▸ ht)
  rw [givePairs_eq hnodup hfirst, List.find?_cons_of_neg (by simp [pairWith, hne]), List.find?_append, find?_homePairs,
    if_pos ht]
  cases hhome : homeLane p ((announceLanes p).erase first) t with
  | some i => rfl
  | none =>
    rw [Option.map_none, Option.none_or]
    exact find?_zipWith_pairWith _ _ (List.mem_filter.mpr ⟨ht, decide_eq_true hhome⟩)

end Plan

/-- A record that listens is in the state LISTENING (R76, R77). -/
theorem listens_eq (s : State) (i : Fin 65) : listens s i = (seatState s i == .listening) := by
  rw [listens, seatState]
  by_cases hpa : i = 64
  · have hpa' : i = paIndex := hpa
    rw [if_pos hpa, if_pos hpa', paState]
    cases s.seats.records[i].enabled <;> cases s.seats.paSource <;> rfl
  · have hpa' : ¬i = paIndex := hpa
    rw [if_neg hpa, if_neg hpa']
    cases s.seats.records[i].enabled
    · rfl
    cases s.lines[seatLine i].boxes[seatBox i].reach
    · rfl
    · cases s.lines[seatLine i].jacks[seatPlace i].confirmed with
      | none => rfl
      | some c => cases c <;> rfl
    · rfl

theorem buildPlan_cons {s : State} {d : Nat} {members : List Nat} (h : s.prog.carousel = d :: members) :
    buildPlan s = (d :: otherNeeded s).filterMap fun t =>
      (givePairs s.prog d (otherNeeded s)).find? fun q => q.language == t := by
  rw [buildPlan, h]

theorem otherNeeded_eq {s : State} {d : Nat} {members : List Nat} (h : s.prog.carousel = d :: members) :
    otherNeeded s = members.filter fun tag =>
      (List.finRange 65).any fun i => listens s i && decide (s.seats.records[i].language = some tag) := by
  rw [otherNeeded, h, List.tail_cons]
  refine List.filter_congr fun tag _ => ?_
  rw [chosen]
  congr 1
  funext i
  rw [listens_eq, beq_eq_decide (s.seats.records[i].language)]

theorem otherNeeded_nodup {s : State} {d : Nat} {members : List Nat} (h : s.prog.carousel = d :: members)
    (hnodup : (d :: members).Nodup) : (d :: otherNeeded s).Nodup := by
  rw [otherNeeded, h]
  exact hnodup.sublist ((List.filter_sublist).cons_cons d)

/-- Without an ANNOUNCE lane the plan is empty (R143). -/
theorem buildPlan_noLanes {s : State} (h : announceLanes s.prog = []) : buildPlan s = [] := by
  cases hcarousel : s.prog.carousel with
  | nil => rw [buildPlan, hcarousel]
  | cons d members =>
    have hpairs : givePairs s.prog d (otherNeeded s) = [] := by rw [givePairs, h]; rfl
    rw [buildPlan_cons hcarousel, hpairs]
    exact List.filterMap_eq_nil_iff.mpr fun _ _ => rfl

/-- The plan, in the order of the needed languages (R142). -/
theorem buildPlan_eq {s : State} {d : Nat} {members : List Nat} (h : s.prog.carousel = d :: members)
    (hnodup : (d :: members).Nodup) {first : Fin 12}
    (hfirst : (homeLane s.prog (announceLanes s.prog) d).or (announceLanes s.prog).head? = some first) :
    buildPlan s = pairWith d first :: (otherNeeded s).filterMap fun t =>
      match homeLane s.prog ((announceLanes s.prog).erase first) t with
      | some i => some (pairWith t i)
      | none => (spareLanes s.prog ((announceLanes s.prog).erase first) (otherNeeded s))[((otherNeeded s).filter fun t =>
          decide (homeLane s.prog ((announceLanes s.prog).erase first) t = none)).idxOf t]?.map (pairWith t) := by
  have hneeded := otherNeeded_nodup h hnodup
  have hdefault : (givePairs s.prog d (otherNeeded s)).find? (fun q => q.language == d) = some (pairWith d first) := by
    rw [givePairs_eq hneeded hfirst]
    exact List.find?_cons_of_pos (by simp [pairWith])
  rw [buildPlan_cons h, List.filterMap_cons, hdefault]
  exact congrArg _ (List.filterMap_congr fun t ht => find?_givePairs hneeded hfirst ht)

/-! ## The cue (R140, R141) -/

theorem exec_announceCue {s : State} (hs : s.pins.held = false) : exec .announceCue s = .next (tryCue s) :=
  congrArg Host.Outcome.next (running_free hs)

theorem tryCue_front {s : State} {e : Entry} (h : cueable s = some e) :
    tryCue s = raise ⟨.announceCued, entryKindCode e.kind⟩ (cueEntry e s).1 := by
  rw [tryCue, h]; exact raiseAll_cueEntry e s

theorem heldLanes_of {s : State} {e : Entry} (h : activeEntry s = some e) :
    heldLanes s = (e.plan.getD []).map (·.lane) := by rw [heldLanes, activePlan, h]

theorem cueReport_eq (e : Entry) (ticket : Nat) (plan : List PlanPair) :
    cueReport e ticket plan = ⟨0x34#6, 0, payload ([ticket, entryKindCode e.kind, e.subject, e.priority, plan.length] ++
      plan.map fun p => p.language + p.lane.val * 256)⟩ := by
  rw [cueReport, payload, List.map_append, List.map_map]
  rfl

theorem cueStarted_only (e : Entry) (s : State) : (cueStarted e s).ann.ticket = nextTicket s.ann.ticket ∧
    (cueStarted e s).ann.cueTimer = 0 ∧ (cueStarted e s).ann.chime = startChime s.ann.slots (chimeSlot e) := by
  rw [cueStarted_ann]; exact ⟨rfl, rfl, rfl⟩

/-- The ticket, the cue timer and the chime of a cue (R141). -/
theorem cueEntry_ann (e : Entry) (s : State) : (cueEntry e s).1.ann.ticket = nextTicket s.ann.ticket ∧
    (cueEntry e s).1.ann.cueTimer = 0 ∧ (cueEntry e s).1.ann.chime = startChime s.ann.slots (chimeSlot e) := by
  obtain ⟨hticket, htimer, hchime⟩ := cueStarted_only e s
  by_cases hmute : cueMute e s
  · have hnone : startChime s.ann.slots (chimeSlot e) = none := by rw [startChime_eq, if_pos hmute.2]
    rw [cueEntry_mute hmute, hnone]
    exact ⟨hticket, htimer, rfl⟩
  · rw [cueEntry_speaking hmute]
    exact ⟨hticket, htimer, hchime⟩

/-- A healthy tick that reaches the front entry's time cues it. -/
theorem localTick_cues {s : State} {e : Entry} {q : List Entry} (hs : Healthy s) (hquiet : QuietCues s)
    (hqueue : s.ann.queue = e :: q) (hidle : activeEntry s = none) (hgo : e.notBefore = some (s.now + 1))
    (hplan : buildPlan s ≠ []) (b : Bool) :
    activeEntry (localTick b s) = some (cuedEntry (nextTicket s.ann.ticket) (buildPlan s) e) := by
  have husers (u : State) (hann : u.ann = s.ann) (hnow : u.now = s.now + 1) (hok : u.dog.health = .ok)
      (hcues : u.cues = s.cues) (hplanned : buildPlan (holdoffTick u) = buildPlan s) :
      activeEntry (tickUsers u) = some (cuedEntry (nextTicket s.ann.ticket) (buildPlan s) e) := by
    obtain ⟨-, -, -, -, -, hcues', hnow', hdog'⟩ := holdoffTick_shown u
    have hann' : (holdoffTick u).ann = s.ann := by rw [holdoffTick_ann, hann]
    have hqueue' : (holdoffTick u).ann.queue = e :: q := by rw [hann', hqueue]
    have hidle' : activeEntry (holdoffTick u) = none := by rw [activeEntry_congr (congrArg Announcer.queue hann'), hidle]
    have hcueable : cueable (holdoffTick u) = some e := cueable_front hqueue' hidle' (by rw [hdog', hok]) fun n hn => by
      rw [hnow', hnow]; rw [hgo] at hn; exact Nat.le_of_eq (Option.some.inj hn).symm
    have hspeaks : ¬cueMute e (holdoffTick u) := fun hmute => hplan (hplanned ▸ hmute.1)
    rw [tickUsers_eq, announceTimers_idle hidle', tryCue_quiet (hquiet.congr (hcues'.trans hcues)), cueNext_front hcueable,
      activeEntry_cueEntry hqueue' hspeaks, hplanned, hann']
  have hplanned (u : State) (hprog : u.prog = s.prog) (hlines : u.lines = s.lines) (hseats : u.seats = s.seats) :
      buildPlan (holdoffTick u) = buildPlan s := by
    obtain ⟨-, -, hsource', hprog', hlines', -⟩ := holdoffTick_shown u
    refine buildPlan_congr (hprog'.trans hprog) (hlines'.trans hlines) (by rw [hsource', hseats]) fun i => ?_
    rw [holdoffTick_record, hseats]
    exact ⟨rfl, rfl⟩
  cases b with
  | true =>
    obtain ⟨hok, hgood⟩ := hs
    have hdog := watchdogTick_good (s := s.withNow (s.now + 1)) hok hgood
    rw [localTick_true, hdog]
    exact husers _ rfl rfl hok rfl (hplanned _ rfl rfl rfl)
  | false =>
    have hfirst := husers (s.withNow (s.now + 1)) rfl rfl hs.1 rfl (hplanned _ rfl rfl rfl)
    obtain ⟨d, hdog⟩ := watchdogTick_healthy (t := tickUsers (s.withNow (s.now + 1))) hs (tickUsers_keepsDog _)
    rw [localTick_false, hdog]
    exact (activeEntry_congr rfl).trans hfirst

theorem listed_first {α : Type} {a b : Option α} {x : α} (h : a = some x ∨ a = none ∧ b = some x) : a.or b = some x := by
  rcases h with h | ⟨h, h'⟩ <;> rw [h]
  · rfl
  · exact h'

/-- Settles O34. -/
theorem frontEntryIsCuedWhenItMayGo : Obligations.FrontEntryIsCuedWhenItMayGo := by
  refine ⟨?cue, fun b s e q hs hquiet hhealthy hqueue hidle hgo hplan => ?tick, fun s hempty => ?noCarousel, ?plan⟩
  case cue =>
    intro s e q hs hqueue hidle hok hgo ticket plan notes mute kind
    have hcueable := cueable_front hqueue hidle hok hgo
    have hkind : entryKindCode e.kind = kind := rfl
    obtain ⟨hticket, htimer, hchime⟩ := cueEntry_ann e s
    refine ⟨fun hquiet => ?quiet, fun j k pa hk hone => ?scanned⟩
    case quiet =>
      have hexec : exec .announceCue s = .next (cueEntry e s).1 := by
        rw [exec_announceCue hs, tryCue_quiet hquiet, cueNext_front hcueable]
      have hreports := cueEntry_reports e s
      rw [cueReport_eq] at hreports
      have hspeaks := activeEntry_cueEntry (s := s) (e := e) hqueue
      have hmute := activeEntry_cueEntry_mute (s := s) (e := e) hqueue
      refine ⟨_, hexec, hticket, htimer, hchime.trans (startChime_eq _ _), ?_, hspeaks, fun h => ?_, hreports⟩
      · by_cases h : cueMute e s
        · rw [heldLanes_of (hmute h)]; rfl
        · rw [heldLanes_of (hspeaks h)]; rfl
      · have hplan : buildPlan s = [] := h.1
        rw [hmute h, hplan]; rfl
    case scanned =>
      have hone' : OneCue j .announceCued k (.paSource pa) (cueEntry e s).1 := hone.congr (cueEntry_frame e s).effects.cues
      have hparam : isAny .announceCued k = true ∨ k = entryKindCode e.kind := by
        rcases hk with hk | hk
        · exact .inr (hk.trans hkind.symm)
        · exact .inl (by rw [hk]; rfl)
      refine ⟨_, exec_announceCue hs, ?_⟩
      rw [tryCue_front hcueable, raise_one hone' rfl hparam]
      exact ⟨hticket, rfl⟩
  case tick =>
    have hactive := localTick_cues hhealthy hquiet hqueue hidle hgo hplan b
    have hdue : reachesNotBefore s = true := by
      rw [reachesNotBefore, hqueue]
      simp [mayGo, hgo]
    have hexec : exec (.notBeforeReached b) s = .next (localTick b s) :=
      (occurrence_due hdue hs).trans (congrArg Host.Outcome.next (tickEvent_eq b hs))
    refine ⟨_, hexec, localTick_now b s, ?_⟩
    rw [announceState_of hactive, hactive]
    exact ⟨rfl, rfl⟩
  case noCarousel => rw [buildPlan, hempty]
  case plan =>
    intro s d members hcarousel hnodup lanes homeIn others
    have hothers : otherNeeded s = others := otherNeeded_eq hcarousel
    refine ⟨buildPlan_noLanes, fun first hfirst => ?_⟩
    have hplan := buildPlan_eq hcarousel hnodup (listed_first hfirst)
    rw [hothers] at hplan
    exact hplan

end Sys2Proof.Machine

/-! # Proofs: what an output frame brings about for the announcement (O20 to O22) -/

namespace Sys2Proof.Machine

set_option Elab.async false

/-! ## The reply slot hangs on the transmitter, the reports, the hold buffer and the unit (R36) -/

/-- Two states are the same to the reply slot. -/
def SlotSame (s t : State) : Prop :=
  t.tx = s.tx ∧ t.reports = s.reports ∧ t.ret = s.ret ∧ t.pins.unit = s.pins.unit

/-- Two slots send the same word and leave states that are the same to the next slot. -/
def SlotsAlike (r r' : Word × State) : Prop := r'.1 = r.1 ∧ SlotSame r.2 r'.2

theorem SlotSame.setTx {s t : State} (h : SlotSame s t) (m : TxMode) (u : Turn) : SlotSame (setTx m u s) (setTx m u t) :=
  ⟨rfl, h.2⟩

theorem SlotSame.setHold {s t : State} (h : SlotSame s t) (hold : List HeldMessage) :
    SlotSame (setHold hold s) (setHold hold t) := by
  obtain ⟨htx, hreports, hret, hunit⟩ := h
  refine ⟨htx, hreports, ?_, hunit⟩
  unfold Machine.setHold
  rw [hret]
  rfl

theorem afterForward_congr {s t : State} (h : SlotSame s t) (m : HeldMessage) (rest : List Word) (others : List HeldMessage)
    (esc : Bool) : SlotSame (afterForward m rest others esc s) (afterForward m rest others esc t) := by
  unfold afterForward; split
  · exact (h.setHold _).setTx _ _
  · exact (h.setHold _).setTx _ _

theorem beginLocal_congr {s t : State} (h : SlotSame s t) (r : Report) (rest : List Report) :
    SlotsAlike (beginLocal r rest s) (beginLocal r rest t) := by
  obtain ⟨htx, hreports, hret, hunit⟩ := h
  unfold beginLocal
  rw [hreports, hunit]
  exact ⟨rfl, rfl, rfl, hret, hunit⟩

theorem forwardWord_congr {s t : State} (h : SlotSame s t) (m : HeldMessage) (others : List HeldMessage) (esc : Bool) :
    SlotsAlike (forwardWord m others esc s) (forwardWord m others esc t) := by
  unfold forwardWord; split
  · split
    · exact ⟨rfl, (h.setHold _).setTx _ _⟩
    · exact ⟨rfl, h.setTx _ _⟩
  · split
    · split
      · exact ⟨rfl, h.setTx _ _⟩
      · exact ⟨rfl, afterForward_congr h _ _ _ _⟩
    · exact ⟨rfl, afterForward_congr h _ _ _ _⟩

theorem chooseWord_congr {s t : State} (h : SlotSame s t) : SlotsAlike (chooseWord s) (chooseWord t) := by
  have hall := h
  obtain ⟨htx, hreports, hret, hunit⟩ := h
  unfold chooseWord
  rw [hreports, hret, htx]
  split
  · exact ⟨rfl, hall⟩
  · exact beginLocal_congr hall _ _
  · exact forwardWord_congr hall _ _ _
  · split
    · exact beginLocal_congr hall _ _
    · exact forwardWord_congr hall _ _ _

theorem forwardSlot_congr {s t : State} (h : SlotSame s t) (esc : Bool) :
    SlotsAlike (forwardSlot esc s) (forwardSlot esc t) := by
  unfold forwardSlot
  rw [h.2.2.1]
  split
  · exact chooseWord_congr (h.setTx _ _)
  · split
    · exact chooseWord_congr ((h.setHold _).setTx _ _)
    · exact forwardWord_congr h _ _ _

theorem replySlot_congr {s t : State} (h : SlotSame s t) : SlotsAlike (replySlot s) (replySlot t) := by
  unfold replySlot
  rw [h.1]
  split
  · exact chooseWord_congr h
  · exact chooseWord_congr (h.setTx _ _)
  · exact ⟨rfl, h.setTx _ _⟩
  · exact ⟨rfl, h.setTx _ _⟩
  · exact forwardSlot_congr h _
  · exact ⟨rfl, h.setTx _ _⟩

theorem replySlot_reports_congr {s t : State} (h : SlotSame s t) : (replySlot t).2.reports = (replySlot s).2.reports :=
  (replySlot_congr h).2.2.1

theorem sendReturnFrame_slot (s : State) : (sendReturnFrame s).reports = (replySlot s).2.reports ∧
    (sendReturnFrame s).tx = (replySlot s).2.tx ∧ (sendReturnFrame s).ret = (replySlot s).2.ret ∧
    (sendReturnFrame s).ann = s.ann := by
  have hann : (replySlot s).2.ann = s.ann := by rw [replySlot_frame]
  exact ⟨rfl, rfl, rfl, hann⟩

/-- The mix is sent before the reply slot where it comes first: the slot is the one of the state at the frame's start. -/
theorem sendFrame_slot (o : FrameOrder) (s : State) (f : LaneFrame) : SlotSame s (sendFrame o s f (readied o s)) := by
  rw [sendFrame_only, readied_eq]
  exact ⟨rfl, rfl, rfl, rfl⟩

theorem sentFrame_reports (o : FrameOrder) (s : State) :
    (sentFrame o s).reports = if o.returnFirst then (replySlot s).2.reports else s.reports := by
  rw [sentFrame, sendReturnIf]
  cases o.returnFirst with
  | true => exact (sendReturnFrame_slot _).1.trans (replySlot_reports_congr (sendFrame_slot o s _))
  | false => exact (sendFrame_slot o s _).2.1

theorem sentFrame_slot {o : FrameOrder} (s : State) (h : o.returnFirst = false) : SlotSame s (sentFrame o s) := by
  rw [sentFrame, h]; exact sendFrame_slot o s _

/-- The events of a frame reach the reply slot by their reports alone. -/
theorem frameEvents_slot (b : Bool) (s : State) :
    SlotSame (s.withReports (frameEvents b s).reports) (frameEvents b s) := by
  rw [frameEvents_only]
  exact ⟨rfl, rfl, rfl, rfl⟩

/-- The events of an output frame, after its mix. -/
def eventsDone (o : FrameOrder) (s : State) : State := frameEvents (chimeEnds (readied o s)) (sentFrame o s)

/-- The reports after a frame whose events queue none. -/
theorem runFrame_reports_quiet {o : FrameOrder} {s : State} (h : (eventsDone o s).reports = (sentFrame o s).reports) :
    (runFrame o s).reports = (replySlot s).2.reports := by
  rw [runFrame_eq]
  cases hfirst : o.returnFirst with
  | true =>
    refine Eq.trans h ?_
    rw [sentFrame_reports, hfirst]
    rfl
  | false =>
    refine (sendReturnFrame_slot _).1.trans (replySlot_reports_congr ?_)
    have hslot := frameEvents_slot (chimeEnds (readied o s)) (sentFrame o s)
    obtain ⟨htx, hreports, hret, hunit⟩ := sentFrame_slot s hfirst
    exact ⟨hslot.1.trans htx, h.trans hreports, hslot.2.2.1.trans hret, hslot.2.2.2.trans hunit⟩

theorem sendReturnIf_ann (b : Bool) (s : State) : (sendReturnIf b s).ann = s.ann := by
  rw [sendReturnIf_only]

theorem runFrame_ann (o : FrameOrder) (s : State) : (runFrame o s).ann = (eventsDone o s).ann := sendReturnIf_ann _ _

/-! ## The state on which the events of a frame act -/

theorem sentFrame_ann (o : FrameOrder) (s : State) :
    (sentFrame o s).ann = { s.ann with chime := chimeAdvance s.ann.chime } := by
  rw [sentFrame_eq]
  rfl

theorem sentFrame_shown (o : FrameOrder) (s : State) :
    (sentFrame o s).now = s.now ∧ (sentFrame o s).dog = s.dog ∧ (sentFrame o s).route = s.route ∧
      (sentFrame o s).cues = s.cues ∧ (sentFrame o s).prog = s.prog ∧ (sentFrame o s).mixer.duck = duckStep s ∧
      (sentFrame o s).meter = (meterSample (usedFrame s) s).meter ∧
      (sentFrame o s).seats.paSource = s.seats.paSource := by
  have hsource : (crossfadeStep s).seats.paSource = s.seats.paSource := by rw [crossfadeStep, State.withSeats_seats]
  rw [sentFrame_eq]
  exact ⟨rfl, rfl, rfl, rfl, rfl, rfl, rfl, hsource⟩

theorem activeEntry_sentFrame (o : FrameOrder) (s : State) : activeEntry (sentFrame o s) = activeEntry s :=
  activeEntry_congr (by rw [sentFrame_ann])

theorem announceState_sentFrame (o : FrameOrder) (s : State) : announceState (sentFrame o s) = announceState s := by
  rw [announceState, activeEntry_sentFrame, announceState]

theorem chimeEnds_readied (o : FrameOrder) (s : State) : chimeEnds (readied o s) = chimeEnds s := by
  rw [chimeEnds, chimeEnds, readied_eq]

theorem eventsDone_eq (o : FrameOrder) (s : State) :
    eventsDone o s = chimeEvent (chimeEnds s) (meterBlock (trailingEvent (sentFrame o s))) := by
  rw [eventsDone, chimeEnds_readied]; rfl

/-! ## Events that do not concern the active entry -/

theorem trailingEvent_stays {s : State} (h : announceState s ≠ some .trailing ∨ s.mixer.duck ≠ 32767) :
    trailingEvent s = s := by
  have hnot : ¬(announceState s = some .trailing ∧ s.mixer.duck = Config.fullGain) := by
    rintro ⟨hstate, hduck⟩
    exact h.elim (fun h => h hstate) fun h => h hduck
  rw [trailingEvent, if_neg hnot]

theorem silenceCheck_other {s : State} (h : announceState s ≠ some .playing) : silenceCheck s = s := by
  unfold silenceCheck
  split
  · rfl
  next e he =>
    have hstate : (e.state == .playing) = false := beq_eq_false_iff_ne.mpr fun hp => h (by rw [announceState_of he, hp])
    simp [hstate]

theorem meterBlock_other {s : State} (h : announceState s ≠ some .playing) : ∃ m, meterBlock s = s.withMeter m := by
  unfold meterBlock
  split
  · exact ⟨s.meter, rfl⟩
  · exact ⟨_, silenceCheck_other h⟩

theorem chimeEnded_other {s : State} (h : announceState s ≠ some .cued) : chimeEnded s = s := by
  unfold chimeEnded
  split
  · rfl
  next e he =>
    have hstate : (e.state == .cued) = false := beq_eq_false_iff_ne.mpr fun hc => h (by rw [announceState_of he, hc])
    simp [hstate]

theorem chimeEvent_other {s : State} (b : Bool) (h : announceState s ≠ some .cued) : chimeEvent b s = s := by
  unfold chimeEvent
  split
  · exact chimeEnded_other h
  · rfl

/-! ## Silence (R146) -/

/-- Changing the active entry into one that is still active. -/
theorem activeEntry_updateActive_of {f : Entry → Entry} (hf : ∀ e, isActive e = true → isActive (f e) = true) (s : State) :
    activeEntry (updateActive f s) = (activeEntry s).map f := by
  have hsame : updateActive f s = updateActive (fun e => if isActive e then f e else { e with state := .trailing }) s := by
    unfold updateActive
    congr 1
    refine List.map_congr_left fun e _ => ?_
    by_cases he : isActive e = true
    · simp [he]
    · simp [he]
  rw [hsame, activeEntry_updateActive]
  · refine Option.map_congr fun e he => ?_
    have hactive : isActive e = true := List.find?_some he
    exact if_pos hactive
  · intro e
    split
    next h => exact hf e h
    next => rfl

section Silence

variable {s : State} {e : Entry}

/-- A plan lane that is not quiet: the entry is heard. -/
theorem silenceCheck_heard (h : activeEntry s = some e) (hstate : e.state = .playing) (hplan : e.plan.getD [] ≠ [])
    (hloud : ((e.plan.getD []).any fun q => !s.meter.lanes[q.lane].quiet) = true) :
    activeEntry (silenceCheck s) = some { e with heard := true } ∧ (silenceCheck s).ann.silenceRun = 0 ∧
      (silenceCheck s).reports = s.reports := by
  have hdue : (e.state == .playing && !(e.plan.getD []).isEmpty) = true := by simp [hstate, hplan]
  rw [silenceCheck, h]
  dsimp only
  rw [if_pos hdue, if_pos hloud]
  refine ⟨?_, rfl, rfl⟩
  refine Eq.trans (activeEntry_congr rfl) ((activeEntry_updateActive_of (fun f hf => ?_) s).trans ?_)
  · exact hf
  · rw [h]; rfl

/-- Every plan lane quiet, and the entry not yet heard. -/
theorem silenceCheck_unheard (h : activeEntry s = some e) (hstate : e.state = .playing) (hplan : e.plan.getD [] ≠ [])
    (hquiet : ((e.plan.getD []).any fun q => !s.meter.lanes[q.lane].quiet) = false) (hheard : e.heard = false) :
    silenceCheck s = s := by
  have hdue : (e.state == .playing && !(e.plan.getD []).isEmpty) = true := by simp [hstate, hplan]
  rw [silenceCheck, h]
  dsimp only
  rw [if_pos hdue, hquiet, hheard]
  rfl

/-- Every plan lane quiet after the entry was heard: the run goes on, or the entry ends (R146). -/
theorem silenceCheck_quiet (h : activeEntry s = some e) (hstate : e.state = .playing) (hplan : e.plan.getD [] ≠ [])
    (hquiet : ((e.plan.getD []).any fun q => !s.meter.lanes[q.lane].quiet) = false) (hheard : e.heard = true) :
    silenceCheck s = if holdBlocks s.ann.silenceHold ≤ s.ann.silenceRun + 1 then
      toTrailing .silence (s.withAnn { s.ann with silenceRun := s.ann.silenceRun + 1 })
    else s.withAnn { s.ann with silenceRun := s.ann.silenceRun + 1 } := by
  have hdue : (e.state == .playing && !(e.plan.getD []).isEmpty) = true := by simp [hstate, hplan]
  rw [silenceCheck, h]
  dsimp only
  rw [if_pos hdue, hquiet, hheard]
  rfl

theorem activeEntry_silenceRun (n : Nat) : activeEntry (s.withAnn { s.ann with silenceRun := n }) = activeEntry s := rfl

theorem silenceCheck_runs (h : activeEntry s = some e) (hstate : e.state = .playing) (hplan : e.plan.getD [] ≠ [])
    (hquiet : ((e.plan.getD []).any fun q => !s.meter.lanes[q.lane].quiet) = false) (hheard : e.heard = true)
    (hnot : ¬(s.ann.silenceHold + 15) / 16 ≤ s.ann.silenceRun + 1) :
    activeEntry (silenceCheck s) = some e ∧ (silenceCheck s).ann.silenceRun = s.ann.silenceRun + 1 ∧
      (silenceCheck s).reports = s.reports := by
  rw [silenceCheck_quiet h hstate hplan hquiet hheard, if_neg (show ¬holdBlocks _ ≤ _ from hnot)]
  exact ⟨h, rfl, rfl⟩

theorem silenceCheck_ends (h : activeEntry s = some e) (hstate : e.state = .playing) (hplan : e.plan.getD [] ≠ [])
    (hquiet : ((e.plan.getD []).any fun q => !s.meter.lanes[q.lane].quiet) = false) (hheard : e.heard = true)
    (hdue : (s.ann.silenceHold + 15) / 16 ≤ s.ann.silenceRun + 1) :
    activeEntry (silenceCheck s) = some { e with state := .trailing, reason := some .silence } ∧
      (silenceCheck s).ann.silenceRun = s.ann.silenceRun + 1 ∧ (silenceCheck s).reports = s.reports := by
  rw [silenceCheck_quiet h hstate hplan hquiet hheard, if_pos (show holdBlocks _ ≤ _ from hdue)]
  refine ⟨?_, rfl, rfl⟩
  rw [activeEntry_toTrailing, activeEntry_silenceRun, h]
  rfl

end Silence

theorem runFrame_active (o : FrameOrder) (s : State) : activeEntry (runFrame o s) = activeEntry (eventsDone o s) :=
  activeEntry_congr (by rw [runFrame_ann])

/-- The events of a frame with a PLAYING entry: its meter block, and no more where that leaves no CUED entry. -/
theorem eventsDone_playing {o : FrameOrder} {s : State} (hstate : announceState s = some .playing)
    (hafter : announceState (meterBlock (sentFrame o s)) ≠ some .cued) : eventsDone o s = meterBlock (sentFrame o s) := by
  have hstays : trailingEvent (sentFrame o s) = sentFrame o s :=
    trailingEvent_stays (.inl (by rw [announceState_sentFrame, hstate]; decide))
  rw [eventsDone_eq, hstays, chimeEvent_other _ hafter]

theorem meterBlock_within {s : State} (h : s.meter.blockPos < 256) : meterBlock s = s := if_pos h

theorem meterBlock_ends {s : State} (h : 256 ≤ s.meter.blockPos) :
    meterBlock s = silenceCheck (s.withMeter ⟨endedLanes s.prog s.meter, 0⟩) := if_neg (Nat.not_lt.mpr h)

/-- What a frame's meter block leaves of a PLAYING entry is what the frame leaves of it. -/
theorem runFrame_playing {o : FrameOrder} {s : State} {e e' : Entry} {run : Nat} (hactive : activeEntry s = some e)
    (hstate : e.state = .playing) (hstate' : e'.state ≠ .cued)
    (hentry : activeEntry (meterBlock (sentFrame o s)) = some e')
    (hrun : (meterBlock (sentFrame o s)).ann.silenceRun = run)
    (hreports : (meterBlock (sentFrame o s)).reports = (sentFrame o s).reports) :
    activeEntry (runFrame o s) = some e' ∧ (runFrame o s).ann.silenceRun = run ∧
      (runFrame o s).reports = (replySlot s).2.reports := by
  have hevents : eventsDone o s = meterBlock (sentFrame o s) :=
    eventsDone_playing (by rw [announceState_of hactive, hstate]) (by
      rw [announceState_of hentry]; exact fun h => hstate' (Option.some.inj h))
  refine ⟨?_, ?_, runFrame_reports_quiet (by rw [hevents, hreports])⟩
  · rw [runFrame_active, hevents, hentry]
  · rw [runFrame_ann, hevents, hrun]

/-- The plan lanes' quiet flags at a block end (R16). -/
theorem plan_quiet_iff (s : State) (plan : List PlanPair) :
    (plan.any fun q => !(endedLanes s.prog (meterSample (usedFrame s) s).meter)[q.lane].quiet) = false ↔
      ∀ q ∈ plan, peakLevel (nextPeak s q.lane) ≤ s.prog.lanes[q.lane].silence := by
  rw [List.any_eq_false]
  refine forall₂_congr fun q _ => ?_
  rw [endedLanes_get, meterSample_lane]
  simp only [Bool.not_eq_true', Bool.not_eq_false, decide_eq_true_eq]
  rfl

/-- Settles O20. -/
theorem silenceEndsAHeardAnnouncement : Obligations.SilenceEndsAHeardAnnouncement := by
  intro o s e hs hactive hstate hplan quiet due goes
  obtain ⟨-, -, -, -, hprog, -, hmeter, -⟩ := sentFrame_shown o s
  have hann := sentFrame_ann o s
  have hheld := (activeEntry_sentFrame o s).trans hactive
  refine ⟨fun hpos => ?ends, fun hpos => ?within⟩
  case within =>
    have hblock : meterBlock (sentFrame o s) = sentFrame o s :=
      meterBlock_within (by rw [hmeter]; change s.meter.blockPos + 1 < 256; omega)
    have hframe := runFrame_playing (o := o) (run := s.ann.silenceRun) hactive hstate (by rw [hstate]; decide)
      (by rw [hblock, hheld]) (by rw [hblock, hann]) (by rw [hblock])
    exact ⟨runFrame o s, exec_outputFrame o hs, hframe⟩
  case ends =>
    have hblock := meterBlock_ends (s := sentFrame o s) (by rw [hmeter]; change 256 ≤ s.meter.blockPos + 1; omega)
    rw [hprog, hmeter] at hblock
    have hexec : exec (.meterBlockEnd o) s = .next (runFrame o s) := by
      have hdue : blockEnds s = true := by rw [blockEnds, hpos]; rfl
      exact (occurrence_due hdue hs).trans (congrArg Host.Outcome.next (outputFrame_running hs))
    have hframe (e' : Entry) (run : Nat) (hne : e'.state ≠ .cued) :=
      runFrame_playing (o := o) (e' := e') (run := run) hactive hstate hne
    rw [hblock] at hframe
    have hquietIff := plan_quiet_iff s (e.plan.getD [])
    have hsilenceRun : (sentFrame o s).ann.silenceRun = s.ann.silenceRun := by rw [hann]
    have hhold : (sentFrame o s).ann.silenceHold = s.ann.silenceHold := by rw [hann]
    generalize sentFrame o s = u at *
    have hheld' : activeEntry (u.withMeter ⟨endedLanes s.prog (meterSample (usedFrame s) s).meter, 0⟩) = some e := hheld
    refine ⟨fun hloud => ?_, fun hquiet hheard => ?_, fun hquiet hheard hnot => ?_, fun hquiet hheard hdue => ?_⟩
    · have hany := Bool.eq_true_of_not_eq_false (mt hquietIff.mp hloud)
      obtain ⟨h1, h2, h3⟩ := silenceCheck_heard hheld' hstate hplan hany
      exact ⟨_, hexec, hframe { e with heard := true } 0 (by rw [hstate]; decide) h1 h2 h3⟩
    · have hcheck := silenceCheck_unheard hheld' hstate hplan (hquietIff.mpr hquiet) hheard
      exact ⟨_, hexec, hframe e _ (by rw [hstate]; decide) (by rw [hcheck, hheld']) (by rw [hcheck]; exact hsilenceRun)
        (by rw [hcheck]; rfl)⟩
    · obtain ⟨h1, h2, h3⟩ := silenceCheck_runs hheld' hstate hplan (hquietIff.mpr hquiet) hheard
        (by rw [State.withMeter_ann, hhold, hsilenceRun]; exact hnot)
      rw [State.withMeter_ann, hsilenceRun] at h2
      exact ⟨_, hexec, hframe e _ (by rw [hstate]; decide) h1 h2 h3⟩
    · obtain ⟨h1, h2, h3⟩ := silenceCheck_ends hheld' hstate hplan (hquietIff.mpr hquiet) hheard
        (by rw [State.withMeter_ann, hhold, hsilenceRun]; exact hdue)
      rw [State.withMeter_ann, hsilenceRun] at h2
      obtain ⟨h1, h2, h3⟩ := hframe _ _ (fun h => by cases h) h1 h2 h3
      have hends : endsWith .playing .silence s (outputFrame o s) = true := by
        rw [outputFrame_running hs, endsWith, announceState_of hactive, announceState_of h1, h1, hstate]
        simp
      exact ⟨_, (occurrence_due hends hs).trans (congrArg Host.Outcome.next (outputFrame_running hs)), h1, h2, h3⟩

/-! ## The chime (R143, R144, R156) -/

theorem chimeAdvance_within {c : Chime} {n : Note} (hnote : c.notes[c.note]? = some n)
    (hframe : c.frame + 1 < n.duration * 16) : chimeAdvance (some c) = some { c with frame := c.frame + 1 } := by
  have hwithin : c.frame + 1 < noteFrames n := hframe
  simp only [chimeAdvance, hnote, if_pos hwithin]

theorem chimeAdvance_next {c : Chime} {n : Note} (hnote : c.notes[c.note]? = some n)
    (hframe : n.duration * 16 ≤ c.frame + 1) (hmore : c.note + 1 < c.notes.length) :
    chimeAdvance (some c) = some { c with note := c.note + 1, frame := 0 } := by
  have hdone : ¬c.frame + 1 < noteFrames n := Nat.not_lt.mpr hframe
  simp only [chimeAdvance, hnote, if_neg hdone, if_pos hmore]

theorem chimeAdvance_last {c : Chime} {n : Note} (hnote : c.notes[c.note]? = some n)
    (hframe : n.duration * 16 ≤ c.frame + 1) (hend : c.notes.length ≤ c.note + 1) : chimeAdvance (some c) = none := by
  have hdone : ¬c.frame + 1 < noteFrames n := Nat.not_lt.mpr hframe
  have hnone : ¬c.note + 1 < c.notes.length := Nat.not_lt.mpr hend
  simp only [chimeAdvance, hnote, if_neg hdone, if_neg hnone]

/-- The events of a frame with an entry that is CUED: those of its chime's end. -/
theorem eventsDone_cued {o : FrameOrder} {s : State} (h : announceState s = some .cued) :
    ∃ m, eventsDone o s = chimeEvent (chimeEnds s) ((sentFrame o s).withMeter m) := by
  have hcued : announceState (sentFrame o s) = some .cued := (announceState_sentFrame o s).trans h
  have hstays : trailingEvent (sentFrame o s) = sentFrame o s := trailingEvent_stays (.inl (by rw [hcued]; decide))
  obtain ⟨m, hm⟩ := meterBlock_other (s := sentFrame o s) (by rw [hcued]; decide)
  exact ⟨m, by rw [eventsDone_eq, hstays, hm]⟩

theorem startPlaying_quiet {s : State} (h : QuietCues s) : startPlaying s = becomePlaying s := by
  have hcues : QuietCues (becomePlaying s) := h.congr rfl
  rw [startPlaying, raise_quiet hcues]

theorem activeEntry_becomePlaying (s : State) :
    activeEntry (becomePlaying s) = (activeEntry s).map fun e => { e with state := .playing } := by
  have hsame : activeEntry (becomePlaying s) = activeEntry (updateActive (fun e => { e with state := .playing }) s) := rfl
  rw [hsame, activeEntry_updateActive fun _ => rfl]

/-- What the end of the chime makes of the CUED entry, with no cue enabled (R143, R144). -/
theorem chimeEnded_cued {s : State} {e : Entry} (hquiet : QuietCues s) (h : activeEntry s = some e)
    (hstate : e.state = .cued) (hchime : s.ann.chime = none) :
    (chimeEnded s).ann.chime = none ∧
      activeEntry (chimeEnded s) = some
        (if e.plan.getD [] = [] then { e with state := .trailing, reason := some .noLanes }
        else if e.clipStarted = true then { e with state := .playing }
        else e) ∧
      (e.plan.getD [] ≠ [] → e.clipStarted = true →
        (chimeEnded s).ann.playTimer = 0 ∧ (chimeEnded s).ann.silenceRun = 0) := by
  have hcued : (e.state == .cued) = true := by rw [hstate]; rfl
  rw [chimeEnded, h]
  dsimp only
  rw [if_pos hcued]
  by_cases hplan : e.plan.getD [] = []
  · rw [if_pos hplan, if_pos (List.isEmpty_iff.mpr hplan)]
    refine ⟨rfl, ?_, fun hne => absurd hplan hne⟩
    rw [activeEntry_toTrailing, h]
    rfl
  · rw [if_neg hplan, if_neg (mt List.isEmpty_iff.mp hplan)]
    by_cases hclip : e.clipStarted = true
    · rw [if_pos hclip, if_pos hclip, startPlaying_quiet hquiet]
      refine ⟨hchime, ?_, fun _ _ => ⟨rfl, rfl⟩⟩
      rw [activeEntry_becomePlaying, h]
      rfl
    · rw [if_neg hclip, if_neg hclip]
      exact ⟨hchime, h, fun _ hc => absurd hc hclip⟩

/-- Settles O21. -/
theorem chimeGoesThroughItsNotesAndEnds : Obligations.ChimeGoesThroughItsNotesAndEnds := by
  refine ⟨fun o s c n hs hcued hchime hnote hlast hmore => ?next,
    fun o s e c n hs hquiet hactive hstate hchime hnote hlast hend => ?ends⟩
  case next =>
    have hadvance := chimeAdvance_next hnote hlast.ge hmore
    have hnotLast : chimeEnds s = false := by rw [chimeEnds, hchime, hadvance]; rfl
    have hdue : noteEnds s = true := by
      rw [noteEnds, hchime, hadvance]
      simp
    obtain ⟨m, hm⟩ := eventsDone_cued (o := o) hcued
    refine ⟨_, (occurrence_due hdue hs).trans (congrArg Host.Outcome.next (outputFrame_running hs)), ?_⟩
    rw [runFrame_ann, hm, hnotLast]
    change (sentFrame o s).ann.chime = _
    rw [sentFrame_ann, hchime, hadvance]
  case ends =>
    have hadvance := chimeAdvance_last hnote hlast.ge hend.ge
    have hdue : chimeEnds s = true := by rw [chimeEnds, hchime, hadvance]; rfl
    obtain ⟨m, hm⟩ := eventsDone_cued (o := o) ((announceState_of hactive).trans (congrArg some hstate))
    rw [hdue] at hm
    obtain ⟨-, -, -, hcues, -⟩ := sentFrame_shown o s
    have hheld : activeEntry ((sentFrame o s).withMeter m) = some e := (activeEntry_sentFrame o s).trans hactive
    have hsilent : ((sentFrame o s).withMeter m).ann.chime = none := by
      rw [State.withMeter_ann, sentFrame_ann, hchime, hadvance]
    have hended := chimeEnded_cued (s := (sentFrame o s).withMeter m) (hquiet.congr hcues) hheld hstate hsilent
    have hevents : eventsDone o s = chimeEnded ((sentFrame o s).withMeter m) := hm
    refine ⟨_, (occurrence_due hdue hs).trans (congrArg Host.Outcome.next (outputFrame_running hs)), ?_⟩
    rw [runFrame_active, runFrame_ann, hevents]
    exact hended

/-! ## The end of TRAILING (R152 to R154) -/

theorem duckTarget_trailing {s : State} (h : announceState s = some .trailing) : duckTarget s = 32767 := by
  rw [duckTarget_eq, if_neg]
  rw [h]
  rintro (h | h) <;> cases h

theorem duckStep_full {s : State} (h : announceState s = some .trailing) (hle : s.mixer.duck ≤ 32767)
    (hreach : 32767 ≤ s.mixer.duck + s.mixer.audio.release) : duckStep s = 32767 := by
  rw [duckStep, duckTarget_trailing h, moveToward]
  split
  · omega
  · split <;> omega

theorem duckStep_rises {s : State} (h : announceState s = some .trailing)
    (hbelow : s.mixer.duck + s.mixer.audio.release < 32767) :
    duckStep s = s.mixer.duck + s.mixer.audio.release := by
  rw [duckStep, duckTarget_trailing h, moveToward, if_pos (by omega)]
  omega

theorem policyReplays_iff (policy : RepeatPolicy) (n : Nat) (halted : Bool) :
    policyReplays policy n halted = true ↔ match policy with
      | .once => False
      | .count => 0 < n
      | .whileHalted => halted = true
      | .countWhileHalted => 0 < n ∧ halted = true := by
  cases policy <;> simp [policyReplays]

theorem countAfter_eq (e : Entry) :
    countAfter e = if e.policy = .count ∨ e.policy = .countWhileHalted then e.count - 1 else e.count := by
  unfold countAfter
  cases e.policy <;> rfl

/-- R154. -/
theorem removedAtReturn_iff (s : State) (e : Entry) : removedAtReturn s e = false ↔ MayReturn s.route e := by
  have hkind : (e.kind == .general) = decide (e.kind = .general) := rfl
  unfold removedAtReturn MayReturn lapOf
  by_cases hgeneral : e.kind = .general
  · simp [hgeneral]
  rw [if_neg (by simpa using hgeneral)]
  by_cases hsession : s.route.session = .running
  · rw [if_neg (by simp [hsession])]
    cases hstop : s.route.stops.find? fun st => st.number == e.subject with
    | none => simp [hsession]
    | some st =>
      have hmatch : (∀ st', some st = some st' → st'.lap = .approached ∨ st'.lap = .arrived ∧ e.kind = .arrival) ↔
          st.lap = .approached ∨ st.lap = .arrived ∧ e.kind = .arrival :=
        ⟨fun h => h st rfl, fun h st' hst' => Option.some.inj hst' ▸ h⟩
      simp only [hgeneral, hsession, false_or, true_and, hmatch]
      cases hlap : st.lap <;> cases hk : e.kind <;> simp_all
  · rw [if_pos (by simpa using hsession)]
    simp [hgeneral, hsession]

/-- Whether an entry that leaves TRAILING in `s` comes back for a replay. -/
def comesBack (s : State) (e : Entry) : Bool := replays s e && !removedAtReturn s (replayEntry s e)

theorem comesBack_iff (s : State) {e : Entry} {r : Reason} (h : e.reason = some r) :
    comesBack s e = true ↔ (r = .clipEnd ∨ r = .silence) ∧
      policyReplays e.policy (countAfter e) (haltCondition s) = true ∧ MayReturn s.route e := by
  have hsame : MayReturn s.route (replayEntry s e) ↔ MayReturn s.route e := Iff.rfl
  rw [comesBack, Bool.and_eq_true, Bool.not_eq_true', removedAtReturn_iff, hsame, replays, Bool.and_eq_true, and_assoc]
  simp [normalEnd, h]

theorem finishEntry_eq (e : Entry) (s : State) :
    finishEntry e s = setQueue
      (if comesBack s e then insertEntry (replayEntry s e) (s.ann.queue.filter fun f => !isActive f)
      else s.ann.queue.filter fun f => !isActive f) (offerReport (endedReport e) s) := by
  rw [finishEntry, offerReport_ann, comesBack]
  split <;> rfl

theorem finishEntry_idle (e : Entry) (s : State) : activeEntry (finishEntry e s) = none := by
  have hwaits : ∀ f ∈ (finishEntry e s).ann.queue, isActive f = false := by
    have hrest : ∀ f ∈ s.ann.queue.filter (fun f => !isActive f), isActive f = false := fun f hf => by
      simpa using (List.mem_filter.mp hf).2
    rw [finishEntry_eq]
    intro f hf
    change f ∈ (if comesBack s e = true then _ else _) at hf
    split at hf
    · rcases mem_insertEntry.mp hf with h | h
      · rw [h]; rfl
      · exact hrest f h
    · exact hrest f hf
  exact List.find?_eq_none.mpr fun f hf => by rw [hwaits f hf]; exact Bool.false_ne_true

theorem finishEntry_reports (e : Entry) (s : State) : (finishEntry e s).reports = (offerReport (endedReport e) s).reports := by
  rw [finishEntry_eq]; rfl

/-- TRAILING ends in a frame whose duck step stands at full gain. -/
theorem trailingEvent_ends {s : State} {e : Entry} (h : activeEntry s = some e) (hstate : e.state = .trailing)
    (hduck : s.mixer.duck = 32767) :
    trailingEvent s = tryCue (raise ⟨.announceEnded, 0⟩ (finishEntry e s)) := by
  have hdue : announceState s = some .trailing ∧ s.mixer.duck = Config.fullGain :=
    ⟨by rw [announceState_of h, hstate], hduck⟩
  rw [trailingEvent, if_pos hdue, leaveTrailing, h]

theorem trailingEvent_quiet {s : State} {e : Entry} (hquiet : QuietCues s) (h : activeEntry s = some e)
    (hstate : e.state = .trailing) (hduck : s.mixer.duck = 32767) : trailingEvent s = cueNext (finishEntry e s) := by
  have hcues : QuietCues (finishEntry e s) := hquiet.congr (finishEntry_frame e s).effects.cues
  rw [trailingEvent_ends h hstate hduck, raise_quiet hcues, tryCue_quiet hcues]

/-- The front entry may not go: something is active, health is LOST, or its time has not come. -/
theorem cueable_waits {s : State} (h : ∀ f q, s.ann.queue = f :: q →
    s.dog.health = .lost ∨ ∃ n, f.notBefore = some n ∧ s.now < n) : cueable s = none := by
  unfold cueable
  cases hqueue : s.ann.queue with
  | nil => rfl
  | cons f q =>
    refine if_neg ?_
    rcases h f q hqueue with hlost | ⟨n, hn, hlater⟩
    · simp [hlost]
    · have hnot : mayGo s.now f = false := by
        rw [mayGo, hn]
        exact decide_eq_false (Nat.not_le.mpr hlater)
      simp [hnot]

/-- The events of a frame in which TRAILING ends and no cue follows. -/
theorem eventsDone_waits {o : FrameOrder} {s : State} {w : State} (hw : trailingEvent (sentFrame o s) = w)
    (hidle : activeEntry w = none) : (eventsDone o s).ann = w.ann ∧ (eventsDone o s).reports = w.reports := by
  have hnone : announceState w = none := by rw [announceState, hidle]; rfl
  obtain ⟨m, hm⟩ := meterBlock_other (s := w) (by rw [hnone]; exact fun h => by cases h)
  have hchime : chimeEvent (chimeEnds s) (w.withMeter m) = w.withMeter m := chimeEvent_other _ (by
    change announceState w ≠ _
    rw [hnone]; exact fun h => by cases h)
  rw [eventsDone_eq, hw, hm, hchime]
  exact ⟨rfl, rfl⟩

/-- What an entry is of: the events of a frame may change its state, not this. -/
def activeKey (s : State) : Option (EntryKind × Nat) := (activeEntry s).map entryKey

theorem toTrailing_key (r : Reason) (s : State) : activeKey (toTrailing r s) = activeKey s := by
  rw [activeKey, activeEntry_toTrailing, Option.map_map]; rfl

theorem chimeEvent_key (b : Bool) {s : State} (hquiet : QuietCues s) : activeKey (chimeEvent b s) = activeKey s := by
  unfold chimeEvent chimeEnded
  split
  · split
    · rfl
    · split
      · split
        · exact toTrailing_key _ s
        · split
          · rw [startPlaying_quiet hquiet, activeKey, activeEntry_becomePlaying, Option.map_map]
            rfl
          · rfl
      · rfl
  · rfl

/-- A cued front entry is the active one, whether it speaks or goes to TRAILING at once. -/
theorem cueEntry_key {s : State} {e : Entry} {q : List Entry} (hqueue : s.ann.queue = e :: q) :
    activeKey (cueEntry e s).1 = some (entryKey e) ∧ announceState (cueEntry e s).1 ≠ some .playing := by
  by_cases h : cueMute e s
  · have hactive := activeEntry_cueEntry_mute hqueue h
    rw [activeKey, announceState, hactive]
    exact ⟨rfl, fun hp => by cases hp⟩
  · have hactive := activeEntry_cueEntry hqueue h
    rw [activeKey, announceState, hactive]
    exact ⟨rfl, fun hp => by cases hp⟩

/-- The events of a frame in which TRAILING ends and the front entry is cued. -/
theorem eventsDone_cues {o : FrameOrder} {s w : State} {f : Entry} {q : List Entry} (hquiet : QuietCues w)
    (hw : trailingEvent (sentFrame o s) = cueNext w) (hqueue : w.ann.queue = f :: q) (hcueable : cueable w = some f) :
    activeKey (eventsDone o s) = some (entryKey f) := by
  obtain ⟨hkey, hstate⟩ := cueEntry_key (s := w) hqueue
  have hcues : (cueEntry f w).1.cues = w.cues := (cueEntry_frame f w).effects.cues
  rw [cueNext_front hcueable] at hw
  rw [eventsDone_eq, hw]
  generalize (cueEntry f w).1 = v at *
  obtain ⟨m, hm⟩ := meterBlock_other hstate
  have hquiet' : QuietCues (v.withMeter m) := hquiet.congr hcues
  rw [hm, chimeEvent_key _ hquiet']
  exact hkey

theorem endedReport_eq {e : Entry} {r : Reason} (h : e.reason = some r) :
    endedReport e = ⟨0x36#6, 0, [word e.ticket, word (reasonCode r)]⟩ := by
  rw [endedReport, h]; rfl

/-- A cue on another trigger keeps the chime's end from the seats. -/
theorem chimeEvent_seats {j : Fin 32} {k : TriggerKind} {param : Nat} {a : CueAction} {s : State} (h : OneCue j k param a s)
    (hk : k ≠ .announcePlaying) (b : Bool) : (chimeEvent b s).seats = s.seats := by
  have hone : OneCue j k param a (becomePlaying s) := h.congr rfl
  have hstart : startPlaying s = becomePlaying s := by rw [startPlaying, raise_other hone hk]
  unfold chimeEvent chimeEnded
  rw [hstart]
  repeat' split
  all_goals rfl

theorem meterBlock_seats (s : State) : (meterBlock s).seats = s.seats ∧ (meterBlock s).cues = s.cues := by
  unfold meterBlock; split
  · exact ⟨rfl, rfl⟩
  · exact ⟨(silenceCheck_frame _).seats, (silenceCheck_frame _).effects.cues⟩

/-- The reports after a frame in whose events one report is queued. -/
theorem runFrame_reports_one {o : FrameOrder} {s : State} {r : Report}
    (h : (eventsDone o s).reports = (offerReport r (sentFrame o s)).reports) :
    (runFrame o s).reports =
      if o.returnFirst = true then (offerReport r (replySlot s).2).reports
      else (replySlot (offerReport r s)).2.reports := by
  have hsent := sentFrame_reports o s
  rw [runFrame_eq]
  cases hfirst : o.returnFirst with
  | true =>
    rw [hfirst] at hsent
    rw [if_pos rfl]
    exact h.trans (offerReport_reports_congr r hsent)
  | false =>
    rw [hfirst] at hsent
    rw [if_neg Bool.false_ne_true]
    refine (sendReturnFrame_slot _).1.trans (replySlot_reports_congr ?_)
    have hslot := frameEvents_slot (chimeEnds (readied o s)) (sentFrame o s)
    obtain ⟨htx, -, hret, hunit⟩ := sentFrame_slot s hfirst
    have hoffer := offerReport_frame r s
    unfold TouchesAnn at hoffer
    refine ⟨?_, h.trans (offerReport_reports_congr r hsent), ?_, ?_⟩
    · rw [hoffer]; exact hslot.1.trans htx
    · rw [hoffer]; exact hslot.2.2.1.trans hret
    · rw [hoffer]; exact hslot.2.2.2.trans hunit

/-- Settles O22. -/
theorem trailingEndsAtFullDuckGain : Obligations.TrailingEndsAtFullDuckGain := by
  unfold Obligations.TrailingEndsAtFullDuckGain
  intro full
  refine ⟨fun o s e r hs hquiet hactive hstate hfull hreason => ?ends, fun o s j q hs hone htrailing hfull => ?scanned,
    fun o s hs htrailing hbelow => ?stays⟩
  case ends =>
    intro halted left again replays ended rest goes
    have htrailing : announceState s = some .trailing := by rw [announceState_of hactive, hstate]
    have hduck : duckStep s = 32767 := duckStep_full htrailing hfull.1 hfull.2
    obtain ⟨hnow, hdog, hroute, hcues, -, hsentDuck, -, -⟩ := sentFrame_shown o s
    have hann := sentFrame_ann o s
    have hheld := (activeEntry_sentFrame o s).trans hactive
    have hexec : exec (.trailingEnd o) s = .next (runFrame o s) := by
      have hdue : trailingEnds s = true := by rw [trailingEnds, htrailing, hduck]; rfl
      exact (occurrence_due hdue hs).trans (congrArg Host.Outcome.next (outputFrame_running hs))
    have hevent := trailingEvent_quiet (hquiet.congr hcues) hheld hstate (hsentDuck.trans hduck)
    have hback : comesBack (sentFrame o s) e = true ↔ replays := by
      have hhalt : haltCondition (sentFrame o s) = halted := by rw [haltCondition, hann, hroute]
      have hleft : countAfter e = left := countAfter_eq e
      have hpolicy : policyReplays e.policy (countAfter e) (haltCondition (sentFrame o s)) = true ↔ again := by
        rw [hhalt, hleft]; exact policyReplays_iff _ _ _
      rw [comesBack_iff _ hreason, hpolicy, hroute]
    have hfinish := finishEntry_eq e (sentFrame o s)
    have hreplay : replayEntry (sentFrame o s) e = { waitingAgain e with
        count := left, notBefore := some (s.now + s.ann.replayGap), entryTime := s.now } := by
      rw [replayEntry, hnow, hann, countAfter_eq]
      rfl
    have hrest : (sentFrame o s).ann.queue.filter (fun f => !isActive f) = rest := by
      rw [hann]
      refine List.filter_congr fun f _ => ?_
      rw [← isWaiting_eq_not_isActive]; rfl
    rw [hreplay, hrest] at hfinish
    have hwFrame := finishEntry_frame e (sentFrame o s)
    have hwIdle := finishEntry_idle e (sentFrame o s)
    have hwReports := finishEntry_reports e (sentFrame o s)
    have hgoes (q : List Entry) (hq : (finishEntry e (sentFrame o s)).ann.queue = q) : goes q := by
      have hwNow : (finishEntry e (sentFrame o s)).now = s.now := hwFrame.effects.now.trans hnow
      have hwDog : (finishEntry e (sentFrame o s)).dog = s.dog := hwFrame.effects.dog.trans hdog
      have hwQuiet : QuietCues (finishEntry e (sentFrame o s)) := hquiet.congr (hwFrame.effects.cues.trans hcues)
      rw [endedReport_eq hreason] at hwReports
      refine ⟨_, hexec, (runFrame_ramps o s).1.trans hduck, fun hwaits => ?_, fun f q' hcons hok hgo => ?_⟩
      · have hnone : cueable (finishEntry e (sentFrame o s)) = none := cueable_waits (by rw [hq, hwDog, hwNow]; exact hwaits)
        rw [cueNext_none hnone] at hevent
        obtain ⟨hdoneAnn, hdoneReports⟩ := eventsDone_waits hevent hwIdle
        have hidle : activeEntry (runFrame o s) = none := by
          rw [runFrame_active, activeEntry_congr (congrArg Announcer.queue hdoneAnn), hwIdle]
        refine ⟨by rw [runFrame_ann, hdoneAnn, hq], hidle, heldLanes_of_idle hidle, ?_⟩
        exact runFrame_reports_one (hdoneReports.trans hwReports)
      · have hqueue : (finishEntry e (sentFrame o s)).ann.queue = f :: q' := hq.trans hcons
        have hcueable := cueable_front hqueue hwIdle (by rw [hwDog, hok]) (by rw [hwNow]; exact hgo)
        have hkey := eventsDone_cues hwQuiet hevent hqueue hcueable
        rw [activeKey, ← runFrame_active] at hkey
        obtain ⟨e', he', hk⟩ := Option.map_eq_some_iff.mp hkey
        obtain ⟨hkind, hsubject⟩ := Prod.mk.inj hk
        rw [he', ← hkind, ← hsubject]
        exact ⟨rfl, rfl⟩
    refine ⟨fun hreplays => hgoes _ ?_, fun hnot => hgoes _ ?_⟩
    · rw [hfinish, if_pos (hback.mpr hreplays)]; rfl
    · rw [hfinish, if_neg (mt hback.mp hnot)]; rfl
  case scanned =>
    have hduck : duckStep s = 32767 := duckStep_full htrailing hfull.1 hfull.2
    have hdue : trailingEnds s = true := by rw [trailingEnds, htrailing, hduck]; rfl
    obtain ⟨e, hactive, hstate⟩ : ∃ e, activeEntry s = some e ∧ e.state = .trailing := by
      rw [announceState] at htrailing
      exact Option.map_eq_some_iff.mp htrailing
    obtain ⟨-, -, -, hcues, -, hsentDuck, -, -⟩ := sentFrame_shown o s
    have hheld := (activeEntry_sentFrame o s).trans hactive
    have hevent := trailingEvent_ends hheld hstate (hsentDuck.trans hduck)
    have hone' : OneCue j .announceEnded 0 (.paSource q) (finishEntry e (sentFrame o s)) :=
      hone.congr ((finishEntry_frame e _).effects.cues.trans hcues)
    have hsource : (trailingEvent (sentFrame o s)).seats.paSource = q := by
      have hraised := hone'.congr (raise_frame ⟨.announceEnded, 0⟩ _).cues
      rw [hevent, tryCue_other hraised (by decide), (cueNext_frame _).seats]
      exact raise_one_paSource hone'
    have honeEvent : OneCue j .announceEnded 0 (.paSource q) (trailingEvent (sentFrame o s)) :=
      hone.congr ((trailingEvent_frame _).cues.trans hcues)
    refine ⟨_, (occurrence_due hdue hs).trans (congrArg Host.Outcome.next (outputFrame_running hs)), ?_⟩
    have hseats : (runFrame o s).seats = (eventsDone o s).seats := by rw [runFrame_eq, sendReturnIf_only]; rfl
    rw [hseats, eventsDone_eq]
    generalize trailingEvent (sentFrame o s) = v at *
    obtain ⟨hseatsKept, hcuesKept⟩ := meterBlock_seats v
    rw [chimeEvent_seats (honeEvent.congr hcuesKept) (by decide), hseatsKept, hsource]
  case stays =>
    have hduck := duckStep_rises htrailing hbelow
    have hnot : trailingEnds s = false := by
      have hless : ¬s.mixer.duck + s.mixer.audio.release = Config.fullGain := Nat.ne_of_lt hbelow
      rw [trailingEnds, hduck, beq_eq_false_iff_ne.mpr hless, Bool.and_false]
    obtain ⟨-, -, -, -, -, hsentDuck, -, -⟩ := sentFrame_shown o s
    have hheld : announceState (sentFrame o s) = some .trailing := (announceState_sentFrame o s).trans htrailing
    have hstays : trailingEvent (sentFrame o s) = sentFrame o s :=
      trailingEvent_stays (.inr (by rw [hsentDuck, hduck]; omega))
    obtain ⟨m, hm⟩ := meterBlock_other (s := sentFrame o s) (by rw [hheld]; decide)
    have hevents : eventsDone o s = (sentFrame o s).withMeter m := by
      rw [eventsDone_eq, hstays, hm]
      refine chimeEvent_other _ ?_
      change announceState (sentFrame o s) ≠ _
      rw [hheld]
      decide
    refine ⟨occurrence_not (.inl hnot), runFrame o s, exec_outputFrame o hs, (runFrame_ramps o s).1.trans hduck, ?_, ?_⟩
    · rw [runFrame_ann, hevents, State.withMeter_ann, sentFrame_ann]
    · exact runFrame_reports_quiet (by rw [hevents]; rfl)

end Sys2Proof.Machine

/-! # Proofs: the frames that an output frame sends (O19) -/

namespace Sys2Proof.Machine

set_option Elab.async false

/-! ## The samples of a frame (R95 to R99) -/

theorem ceilingOf_eq (a : AudioSettings) (i : Fin 65) :
    ceilingOf a i = if i = 64 then a.paCeiling else a.headsetCeiling := rfl

theorem announceOnly_iff (s : State) (i : Fin 65) :
    announceOnly s i = true ↔ i = 64 ∧ s.seats.paSource = .announceOnly := by
  rw [announceOnly, Bool.and_eq_true, beq_iff_eq, beq_iff_eq]
  rfl

/-- The mix of a prepared frame is what the record is to hear (R96 to R99). -/
theorem heardSample_of {o : FrameOrder} {s t r : State} {i : Fin 65} (hrecord : r.seats.records[i] = t.seats.records[i])
    (hduck : r.mixer.duck = t.mixer.duck) (hvolume : r.mixer.volumes[i] = t.mixer.volumes[i])
    (haudio : r.mixer.audio = s.mixer.audio) (hsource : r.seats.paSource = s.seats.paSource) (hprog : r.prog = s.prog)
    (hann : r.ann = s.ann) (hlisten : listensIn o s t i = (seatState r i == .listening)) :
    heardSample o s t i = mixRecord r (usedFrame s) (chimeSample s.ann.chime) i := by
  have hactive : activeEntry r = activeEntry s := activeEntry_congr (by rw [hann])
  have hstate : announceState r = announceState s := by rw [announceState, hactive, announceState]
  have hplan : activePlan r = activePlan s := by rw [activePlan, hactive, activePlan]
  have honly : announceOnly r i = true ↔ i = 64 ∧ s.seats.paSource = .announceOnly := by
    rw [announceOnly_iff, hsource]
  have hcommentary : commentaryInput r (usedFrame s) i = if i = 64 ∧ s.seats.paSource = .announceOnly then Input.none
      else laneInput (usedFrame s) s.prog t.seats.records[i].sounding := by
    rw [commentaryInput, hprog, hrecord]
    exact if_congr honly rfl rfl
  have hbed : bedInput r (usedFrame s) i = if i = 64 ∧ s.seats.paSource = .announceOnly then Input.none
      else laneInput (usedFrame s) s.prog (bedLane s.prog) := by
    rw [bedInput, hprog]
    exact if_congr honly rfl rfl
  have hspeech : announceInput r (usedFrame s) i = if announceState s = some .playing then
      laneInput (usedFrame s) s.prog (planLane (activePlan s) t.seats.records[i].language) else Input.none := by
    rw [announceInput, hprog, hrecord, hstate, hplan]
  have hstep : announceStep r.mixer.audio i r.seats.records[i].step =
      max (min t.seats.records[i].step (if i = 64 then s.mixer.audio.paCeiling else s.mixer.audio.headsetCeiling))
        (min s.mixer.audio.announceFloor (if i = 64 then s.mixer.audio.paCeiling else s.mixer.audio.headsetCeiling)) := by
    rw [announceStep, programmeStep, ceilingOf_eq, haudio, hrecord]
  unfold heardSample mixRecord
  rw [hlisten, hcommentary, hbed, hspeech, hstep, hduck, hvolume, hrecord]
  exact if_congr beq_iff_eq rfl rfl

theorem readied_lines (o : FrameOrder) (s : State) (i : Fin 4) :
    (readied o s).lines[i] = if o.pollsFirst[i] then lineClosed s.lines[i] else s.lines[i] := by
  rw [readied_eq]
  exact closePolls_lines _ s i

theorem readied_record (o : FrameOrder) (s : State) (i : Fin 65) :
    (readied o s).seats.records[i] = crossfade s.prog s.seats.records[i] := by
  have hseats : (readied o s).seats = (crossfadeStep s).seats := by rw [readied_eq]
  rw [hseats, crossfadeStep_record]

theorem readied_mixer (o : FrameOrder) (s : State) : (readied o s).mixer.duck = duckStep s ∧
    (∀ i : Fin 65, (readied o s).mixer.volumes[i] = volumeStep s i) ∧ (readied o s).mixer.audio = s.mixer.audio := by
  have hmixer : (readied o s).mixer = (rampStep s).mixer := by rw [readied_eq]
  rw [hmixer]
  exact ⟨rfl, fun i => by simp [rampStep], rfl⟩

theorem readied_shown (o : FrameOrder) (s : State) : (readied o s).prog = s.prog ∧ (readied o s).ann = s.ann ∧
    (readied o s).seats.paSource = s.seats.paSource ∧ (readied o s).out = s.out ∧ (readied o s).pins = s.pins := by
  have hsource : (crossfadeStep s).seats.paSource = s.seats.paSource := by rw [crossfadeStep, State.withSeats_seats]
  rw [readied_eq]
  exact ⟨rfl, rfl, hsource, rfl, rfl⟩

theorem headsetState_listening (enabled : Bool) (reach : Reach) (confirmed : Option JackClass) :
    (headsetState enabled reach confirmed == .listening) =
      (enabled && (reach == .reachable && confirmed == some .headset)) := by
  cases enabled
  · rfl
  cases reach
  · rfl
  · cases confirmed with
    | none => rfl
    | some c => cases c <;> rfl
  · rfl

/-- Whether a record listens in the frame's mix: its line's judgements counted where they come first (R69, R76, R77). -/
theorem listensIn_eq {o : FrameOrder} {s : State} (i : Fin 65) :
    listensIn o s (runFrame o s) i = (seatState (readied o s) i == .listening) := by
  have henabled : (readied o s).seats.records[i].enabled = s.seats.records[i].enabled := by
    rw [readied_record]; exact (crossfade_keeps _ _).2.2
  obtain ⟨-, -, hsource, -, -⟩ := readied_shown o s
  have hboxes : ((if o.pollsFirst[seatLine i] then runFrame o s else s).lines[seatLine i]).boxes =
      (readied o s).lines[seatLine i].boxes := by
    rw [readied_lines]
    cases o.pollsFirst[seatLine i]
    · rfl
    · rw [if_pos rfl, if_pos rfl, runFrame_lines, lineSent_boxes]
  have hjacks : (readied o s).lines[seatLine i].jacks = s.lines[seatLine i].jacks := by
    rw [readied_lines]
    cases o.pollsFirst[seatLine i]
    · rfl
    · rw [if_pos rfl, lineClosed_jacks]
  rw [listensIn, seatState, henabled, hsource, hboxes, hjacks]
  by_cases hpa : i = 64
  · have hpa' : i = paIndex := hpa
    rw [if_pos hpa, if_pos hpa', paState]
    cases s.seats.records[i].enabled <;> cases s.seats.paSource <;> rfl
  · have hpa' : ¬i = paIndex := hpa
    rw [if_neg hpa, if_neg hpa', headsetState_listening]

/-- The samples of a frame's mix. -/
def frameSamples (o : FrameOrder) (s : State) : Vector Int 65 :=
  mix (readied o s) (usedFrame s) (chimeSample s.ann.chime)

theorem frameSamples_get (o : FrameOrder) (s : State) (i : Fin 65) :
    (frameSamples o s)[i] = heardSample o s (runFrame o s) i := by
  obtain ⟨hprog, hann, hsource, -, -⟩ := readied_shown o s
  obtain ⟨hduck, hvolumes, haudio⟩ := readied_mixer o s
  obtain ⟨hduck', hvolumes', hrecords⟩ := runFrame_ramps o s
  have hmix : (frameSamples o s)[i] = mixRecord (readied o s) (usedFrame s) (chimeSample s.ann.chime) i := by
    simp [frameSamples, mix]
  rw [hmix]
  exact (heardSample_of ((readied_record o s i).trans (hrecords i).symm) (hduck.trans hduck'.symm)
    ((hvolumes i).trans (hvolumes' i).symm) haudio hsource hprog hann (listensIn_eq i)).symm

theorem clampSample_range (x : Int) : -32767 ≤ clampSample x ∧ clampSample x ≤ 32767 := by
  unfold clampSample; omega

theorem heardSample_range (o : FrameOrder) (s t : State) (i : Fin 65) :
    -32767 ≤ heardSample o s t i ∧ heardSample o s t i ≤ 32767 := by
  unfold heardSample
  dsimp only
  split
  · exact clampSample_range _
  · omega

/-- A sample in range is sent as it is, and is no sync code (R1, R101). -/
theorem sampleWord {x : Int} (hlow : -32767 ≤ x) (hhigh : x ≤ 32767) :
    (BitVec.ofInt 16 x).toInt = x ∧ BitVec.ofInt 16 x ≠ 0x8000#16 := by
  have hint : (BitVec.ofInt 16 x).toInt = x := by
    rw [BitVec.toInt_ofInt]
    exact Int.bmod_eq_of_le (by omega) (by omega)
  refine ⟨hint, fun h => ?_⟩
  rw [h] at hint
  have hsync : (0x8000#16 : BitVec 16).toInt = -32768 := by decide
  omega

/-! ## The seat frames and the PA output (R58, R101) -/

theorem sendFrame_out (o : FrameOrder) (s : State) :
    (sendFrame o s (storeTake (closePolls o.pollsFirst s)).1 (readied o s)).out = { s.out with
      seatOut := Vector.ofFn (lineFrame s (frameSamples o s))
      paOut := PaFrame.both (BitVec.ofInt 16 (frameSamples o s)[paIndex]) } := by
  obtain ⟨-, hann, -, hout, -⟩ := readied_shown o s
  have hclosed : (closePolls (mapTable (!·) o.pollsFirst) (chimeStep (readied o s))).out = s.out := by
    rw [closePolls_only]; exact hout
  rw [taken_eq, sendFrame, hann]
  change { (closePolls (mapTable (!·) o.pollsFirst) (chimeStep (readied o s))).out with
      seatOut := Vector.ofFn (lineFrame s (frameSamples o s))
      paOut := PaFrame.both (BitVec.ofInt 16 (frameSamples o s)[paIndex]) } = _
  rw [hclosed]

theorem sendReturnIf_out (b : Bool) (s : State) : (sendReturnIf b s).out = if b then { s.out with
    returnOut := returnFrame (sentStatus s) (sentAttention s) (replySlot s).1 } else s.out := by
  cases b with
  | false => rfl
  | true =>
    have hout : (replySlot s).2.out = s.out := by rw [replySlot_frame]
    change { (replySlot s).2.out with
      returnOut := returnFrame (sentStatus s) (sentAttention s) (replySlot s).1 } = _
    rw [hout]
    rfl

theorem sendReturnIf_pins (b : Bool) (s : State) :
    (sendReturnIf b s).pins = if b then { s.pins with passThrough := false } else s.pins := by
  cases b with
  | false => rfl
  | true =>
    have hpins : (replySlot s).2.pins = s.pins := by rw [replySlot_frame]
    change { (replySlot s).2.pins with passThrough := false } = _
    rw [hpins]
    rfl

/-- The state from which an output frame's return frame is sent. -/
def slotState (o : FrameOrder) (s : State) : State :=
  if o.returnFirst then sendFrame o s (storeTake (closePolls o.pollsFirst s)).1 (readied o s) else eventsDone o s

theorem eventsDone_kept (o : FrameOrder) (s : State) : (eventsDone o s).out = (sentFrame o s).out ∧
    (eventsDone o s).pins = (sentFrame o s).pins ∧ (eventsDone o s).tx = (sentFrame o s).tx ∧
    (eventsDone o s).ret = (sentFrame o s).ret := by
  rw [eventsDone, frameEvents_only]
  exact ⟨rfl, rfl, rfl, rfl⟩

/-- What stands on the outputs after a frame. -/
theorem runFrame_out (o : FrameOrder) (s : State) : (runFrame o s).out = { s.out with
    seatOut := Vector.ofFn (lineFrame s (frameSamples o s))
    paOut := PaFrame.both (BitVec.ofInt 16 (frameSamples o s)[paIndex])
    returnOut := returnFrame (sentStatus (slotState o s)) (sentAttention (slotState o s)) (replySlot (slotState o s)).1 } := by
  obtain ⟨hout, -, -, -⟩ := eventsDone_kept o s
  have hsend := sendFrame_out o s
  have hlast : (runFrame o s).out = (sendReturnIf (!o.returnFirst) (eventsDone o s)).out := rfl
  rw [hlast, sendReturnIf_out, hout, sentFrame, sendReturnIf_out, hsend, slotState]
  cases o.returnFirst <;> rfl

theorem runFrame_pins (o : FrameOrder) (s : State) : (runFrame o s).pins = { s.pins with passThrough := false } := by
  obtain ⟨-, hpins, -, -⟩ := eventsDone_kept o s
  have hsend : (sendFrame o s (storeTake (closePolls o.pollsFirst s)).1 (readied o s)).pins = s.pins := by
    rw [sendFrame_only]; exact (readied_shown o s).2.2.2.2
  have hlast : (runFrame o s).pins = (sendReturnIf (!o.returnFirst) (eventsDone o s)).pins := rfl
  rw [hlast, sendReturnIf_pins, hpins, sentFrame, sendReturnIf_pins, hsend]
  cases o.returnFirst <;> rfl

theorem runFrame_slot (o : FrameOrder) (s : State) : (runFrame o s).tx = (replySlot (slotState o s)).2.tx ∧
    (runFrame o s).ret = (replySlot (slotState o s)).2.ret ∧
    (o.returnFirst = false → (runFrame o s).reports = (replySlot (slotState o s)).2.reports) := by
  obtain ⟨-, -, htx, hret⟩ := eventsDone_kept o s
  rw [runFrame_eq, ← eventsDone, slotState]
  cases hfirst : o.returnFirst with
  | true =>
    rw [if_pos rfl]
    have hsent : sentFrame o s = sendReturnFrame (sendFrame o s (storeTake (closePolls o.pollsFirst s)).1 (readied o s)) := by
      rw [sentFrame, hfirst]; rfl
    rw [hsent] at htx hret
    exact ⟨htx, hret, fun h => absurd h.symm Bool.false_ne_true⟩
  | false => exact ⟨rfl, rfl, fun _ => rfl⟩

theorem lampLit_eq (s : State) : lampLit s = (announceState s == some .cued || announceState s == some .playing) := by
  rw [Bool.eq_iff_iff, lampLit_iff, Bool.or_eq_true, beq_iff_eq, beq_iff_eq]

theorem lineSamples_get (samples : Vector Int 65) (line : Fin 4) (k : Fin 16) :
    (lineSamples samples line)[k.val]? = some (BitVec.ofInt 16 samples[Fin.ofNat 65 (line.val * 16 + k.val)]) := by
  rw [lineSamples, List.getElem?_map, List.getElem?_range k.isLt]
  rfl

theorem lineSamples_length (samples : Vector Int 65) (line : Fin 4) : (lineSamples samples line).length = 16 := by
  simp [lineSamples]

theorem seatFrame_length (samples : Vector Int 65) (line : Fin 4) (poll : Word) :
    (seatFrame (lineSamples samples line) poll).length = 19 := by simp [seatFrame, lineSamples_length]

theorem seatFrame_checked (samples : List Word) (poll : Word) : Checked (seatFrame samples poll) :=
  ⟨rfl, sumWords_checked _⟩

theorem seatFrame_sample (samples : Vector Int 65) (line : Fin 4) (poll : Word) (k : Fin 16) :
    (seatFrame (lineSamples samples line) poll)[k.val + 1]? =
      some (BitVec.ofInt 16 samples[Fin.ofNat 65 (line.val * 16 + k.val)]) := by
  have hk := k.isLt
  have hlen := lineSamples_length samples line
  rw [seatFrame, List.cons_append, List.getElem?_cons_succ, List.getElem?_append_left (by simp; omega),
    List.getElem?_append_left (by omega), lineSamples_get]

theorem seatFrame_poll (samples : Vector Int 65) (line : Fin 4) (poll : Word) :
    (seatFrame (lineSamples samples line) poll)[17]? = some poll := by
  have hlen := lineSamples_length samples line
  rw [seatFrame, List.cons_append, List.getElem?_cons_succ, List.getElem?_append_left (by simp; omega),
    List.getElem?_append_right (by omega), hlen]
  rfl

/-- A line's poll after a frame (R57). -/
theorem lineSent_closed (l : SeatLine) :
    (l.enabled = true → (lineSent (lineClosed l)).poll = some ⟨l.pollPos, [], false⟩ ∧
      (lineSent (lineClosed l)).pollPos = l.pollPos + 1) ∧
    (l.enabled = false → (lineSent (lineClosed l)).poll = none ∧ (lineSent (lineClosed l)).pollPos = l.pollPos) := by
  have hclosed : (lineClosed l).enabled = l.enabled ∧ (lineClosed l).pollPos = l.pollPos ∧ (lineClosed l).poll = none := by
    unfold lineClosed; split <;> exact ⟨rfl, rfl, rfl⟩
  obtain ⟨henabled, hpos, hpoll⟩ := hclosed
  unfold lineSent
  rw [henabled, hpos]
  refine ⟨fun h => ?_, fun h => ?_⟩
  · rw [h]; exact ⟨rfl, rfl⟩
  · rw [h]; exact ⟨hpoll, hpos⟩

/-! ## What the events of a frame do to the waiting reports -/

/-- The waiting reports stand at the front of those waiting afterwards. -/
def ReportsGrow (s t : State) : Prop := s.reports.queue <+: t.reports.queue

theorem ReportsGrow.rfl (s : State) : ReportsGrow s s := List.prefix_rfl

theorem ReportsGrow.trans {a b c : State} (hab : ReportsGrow a b) (hbc : ReportsGrow b c) : ReportsGrow a c :=
  List.IsPrefix.trans hab hbc

theorem offerReport_grows (r : Report) (s : State) : ReportsGrow s (offerReport r s) := by
  rcases offerReport_cases r s with ⟨-, h⟩ | ⟨-, h⟩ <;> rw [h]
  · exact List.prefix_append _ _
  · exact List.prefix_rfl

theorem cueEntry_grows (e : Entry) (s : State) : ReportsGrow s (cueEntry e s).1 := by
  unfold ReportsGrow
  rw [cueEntry_reports]
  exact offerReport_grows _ s

theorem preempt_grows (a u : Entry) (s : State) : ReportsGrow s (preempt a u s).1 := by
  unfold preempt
  dsimp only
  refine (offerReport_grows (abortReport a.ticket .preempted) s).trans (ReportsGrow.trans ?_ (cueEntry_grows _ _))
  split <;> exact List.prefix_rfl

theorem joinEntry_grows (e : Entry) (s : State) : ReportsGrow s (joinEntry e s).1 := by
  have hjoined : ReportsGrow s (setQueue (insertEntry e s.ann.queue) s) := List.prefix_rfl
  unfold joinEntry
  dsimp only
  split
  · exact hjoined
  · split
    · exact hjoined.trans (preempt_grows _ _ _)
    · exact hjoined

theorem offerEntry_grows (e : Entry) (s : State) : ReportsGrow s (offerEntry e s).1 := by
  unfold offerEntry
  split
  · exact .rfl s
  · split
    · exact joinEntry_grows e s
    · split
      · exact offerReport_grows _ s
      next v _ =>
        have hremoved : ReportsGrow (offerReport (droppedReport v) s)
            (removeWaiting (hasKey v.kind v.subject) (offerReport (droppedReport v) s)) := List.prefix_rfl
        exact (offerReport_grows _ s).trans (hremoved.trans (joinEntry_grows _ _))

theorem doAction_grows (a : CueAction) (s : State) : ReportsGrow s (doAction a s).1 := by
  cases a with
  | announce phrase priority policy count => exact offerEntry_grows _ s
  | scene | overlay | clear | headsetCeiling | paCeiling | paSource | duckDepth => exact .rfl s

theorem scanOnce_grows (t : Trigger) (s : State) : ReportsGrow s (scanOnce t s).1 := by
  have hfold : ∀ (l : List (Fin 32)) (acc : Raised), ReportsGrow acc.1 (l.foldl (scanCue t) acc).1 := by
    intro l
    induction l with
    | nil => exact fun acc => .rfl acc.1
    | cons i l ih =>
      intro acc
      refine ReportsGrow.trans ?_ (ih _)
      unfold scanCue; dsimp only; split
      · exact doAction_grows _ _
      · exact .rfl _
  exact hfold _ (s, [])

theorem raise_grows (t : Trigger) (s : State) : ReportsGrow s (raise t s) :=
  (scanOnce_grows t s).trans (foldl_touches _ .rfl .trans _ (fun s' t' => scanOnce_grows t' s') _ _)

theorem raiseAll_grows (r : Raised) : ReportsGrow r.1 (raiseAll r) :=
  foldl_touches _ .rfl .trans _ (fun s t => raise_grows t s) _ _

theorem tryCue_grows (s : State) : ReportsGrow s (tryCue s) := by
  unfold tryCue; split
  · exact .rfl s
  · exact (cueEntry_grows _ s).trans (raiseAll_grows _)

theorem leaveTrailing_grows (s : State) : ReportsGrow s (leaveTrailing s) := by
  unfold leaveTrailing; split
  · exact .rfl s
  next e _ =>
    have hfinish : ReportsGrow s (finishEntry e s) := by
      unfold ReportsGrow
      rw [finishEntry_reports]
      exact offerReport_grows _ s
    exact hfinish.trans ((raise_grows _ _).trans (tryCue_grows _))

theorem silenceCheck_reports (s : State) : (silenceCheck s).reports = s.reports := by
  unfold silenceCheck
  split
  · rfl
  · dsimp only
    split
    · split
      · rfl
      · split
        · split <;> rfl
        · rfl
    · rfl

theorem chimeEnded_grows (s : State) : ReportsGrow s (chimeEnded s) := by
  unfold chimeEnded; split
  · exact .rfl s
  · split
    · split
      · exact List.prefix_rfl
      · split
        · have hplays : ReportsGrow s (becomePlaying s) := List.prefix_rfl
          rw [startPlaying]
          exact hplays.trans (raise_grows _ _)
        · exact .rfl s
    · exact .rfl s

theorem frameEvents_grows (b : Bool) (s : State) : ReportsGrow s (frameEvents b s) := by
  have htrailing : ReportsGrow s (trailingEvent s) := by
    unfold trailingEvent; split
    · exact leaveTrailing_grows s
    · exact .rfl s
  have hblock (u : State) : ReportsGrow u (meterBlock u) := by
    unfold ReportsGrow meterBlock; split
    · exact List.prefix_rfl
    · rw [silenceCheck_reports]; exact List.prefix_rfl
  have hchime (u : State) : ReportsGrow u (chimeEvent b u) := by
    unfold chimeEvent; split
    · exact chimeEnded_grows u
    · exact .rfl u
  exact htrailing.trans ((hblock _).trans (hchime _))

/-! ## The return frame (R32 to R34, R36) -/

theorem returnFrame_length (status : Vector Word 4) (attention slot : Word) :
    (returnFrame status attention slot).length = 8 := by simp [returnFrame]

theorem returnFrame_checked (status : Vector Word 4) (attention slot : Word) :
    Checked (returnFrame status attention slot) := ⟨rfl, sumWords_checked _⟩

theorem returnFrame_status (status : Vector Word 4) (attention slot : Word) (j : Fin 4) :
    (returnFrame status attention slot)[j.val + 1]? = some status[j] := by
  have hj := j.isLt
  rw [returnFrame, List.cons_append, List.getElem?_cons_succ, List.getElem?_append_left (by simp; omega),
    List.getElem?_append_left (by simp), Vector.getElem?_toList, Vector.getElem?_eq_getElem hj]
  rfl

theorem returnFrame_attention (status : Vector Word 4) (attention slot : Word) :
    (returnFrame status attention slot)[5]? = some attention := by simp [returnFrame]

theorem returnFrame_slot (status : Vector Word 4) (attention slot : Word) :
    (returnFrame status attention slot)[6]? = some slot := by simp [returnFrame]

theorem sentStatus_get (s : State) (j : Fin 4) :
    (sentStatus s)[j] = if j.val = s.pins.unit.toNat then statusWord s else s.ret.status[j] := by
  by_cases hj : j = ownPlace s
  · subst hj
    rw [sentStatus, setAt_self]
    exact (if_pos rfl).symm
  · rw [sentStatus, setAt_other _ _ _ _ (Ne.symm hj), if_neg]
    exact fun h => hj (Fin.ext h)

theorem sentAttention_get (s : State) (k : Fin 16) : (sentAttention s).getLsbD k.val =
    if k.val = s.pins.unit.toNat then attention s.notices
    else decide (k.val < 4) && s.ret.attention.getLsbD k.val := by
  have hlow : (0x000F#16 : BitVec 16).getLsbD k.val = decide (k.val < 4) := by revert k; decide
  have hk := k.isLt
  have hunit := s.pins.unit.isLt
  rw [sentAttention, BitVec.getLsbD_or, BitVec.getLsbD_and, BitVec.getLsbD_and, BitVec.getLsbD_not, hlow, BitVec.getLsbD_twoPow]
  by_cases hown : k.val = s.pins.unit.toNat
  · rw [if_pos hown]
    cases attention s.notices <;> simp [hown]; omega
  · rw [if_neg hown]
    cases attention s.notices <;> simp [hown, Ne.symm hown, Bool.and_comm]

theorem word_getLsbD (n : Nat) {k : Nat} (hk : k < 16) : (word n).getLsbD k = decide (n / 2 ^ k % 2 = 1) := by
  rw [word, BitVec.getLsbD_ofNat, Nat.testBit_eq_decide_div_mod_eq]
  simp [hk]

theorem word_extractLsb' {n : Nat} (hn : n < 65536) (a b : Nat) :
    ((word n).extractLsb' a b).toNat = n / 2 ^ a % 2 ^ b := by
  rw [BitVec.extractLsb'_toNat, word_toNat hn, Nat.shiftRight_eq_div_pow]

/-- The fields of the unit status word (R33). -/
theorem statusWord_fields (s : State) :
    (statusWord s).getLsbD 0 = decide (s.dog.health = .ok) ∧
      ((statusWord s).extractLsb' 1 2).toNat = lockCode s.trunk.rx.lock ∧
      ((statusWord s).extractLsb' 3 2).toNat = sessionCode s.route.session ∧
      ((statusWord s).extractLsb' 9 3).toNat = positionCode s.route.status ∧
      ((statusWord s).extractLsb' 12 3).toNat = bandCode s.cues.ambient.confirmed ∧
      (statusWord s).getLsbD 15 = false ∧
      ((statusWord s).extractLsb' 5 2).toNat = announceCode (announceState s) ∧
      (statusWord s).getLsbD 8 = decide (s.reports.queue ≠ []) ∧ (statusWord s).getLsbD 7 = attention s.notices := by
  have hhealth : healthCode s.dog.health = if s.dog.health = .ok then 1 else 0 := by cases s.dog.health <;> rfl
  have hhealthLt : healthCode s.dog.health < 2 := by cases s.dog.health <;> decide
  have hlock : lockCode s.trunk.rx.lock < 4 := by cases s.trunk.rx.lock <;> decide
  have hsession : sessionCode s.route.session < 4 := by cases s.route.session <;> decide
  have hann : announceCode (announceState s) < 4 := by
    cases announceState s with
    | none => decide
    | some st => cases st <;> decide
  have hatt : bitNat (attention s.notices) < 2 := bitNat_lt _
  have hpend : bitNat (!s.reports.queue.isEmpty) < 2 := bitNat_lt _
  have hpos : positionCode s.route.status < 8 := by cases s.route.status <;> decide
  have hband : bandCode s.cues.ambient.confirmed < 8 := by
    cases s.cues.ambient.confirmed with
    | none => decide
    | some b => cases b <;> decide
  have hattBit : attention s.notices = decide (bitNat (attention s.notices) = 1) := by cases attention s.notices <;> rfl
  have hpendBit : decide (s.reports.queue ≠ []) = decide (bitNat (!s.reports.queue.isEmpty) = 1) := by
    cases s.reports.queue <;> rfl
  have hhealthBit : decide (s.dog.health = .ok) = decide (healthCode s.dog.health = 1) := by cases s.dog.health <;> rfl
  rw [hattBit, hpendBit, hhealthBit, statusWord]
  generalize healthCode s.dog.health = h at *
  generalize lockCode s.trunk.rx.lock = l at *
  generalize sessionCode s.route.session = ss at *
  generalize announceCode (announceState s) = a at *
  generalize bitNat (attention s.notices) = at' at *
  generalize bitNat (!s.reports.queue.isEmpty) = pd at *
  generalize positionCode s.route.status = p at *
  generalize bandCode s.cues.ambient.confirmed = b at *
  have hn : h + l * 2 + ss * 8 + a * 32 + at' * 128 + pd * 256 + p * 512 + b * 4096 < 65536 := by omega
  rw [word_getLsbD _ (by decide), word_getLsbD _ (by decide), word_getLsbD _ (by decide), word_getLsbD _ (by decide),
    word_extractLsb' hn, word_extractLsb' hn, word_extractLsb' hn, word_extractLsb' hn, word_extractLsb' hn]
  simp only [decide_eq_decide, decide_eq_false_iff_not]
  norm_num only
  omega

/-- Attention, once shown, stays while no cause is cleared (R37). -/
theorem attention_kept {s t : State} (h : CausesKept s t) (ha : attention s.notices = true) : attention t.notices = true := by
  obtain ⟨hcauses, henables⟩ := h
  have hne : s.notices.causes &&& s.notices.enables ≠ 0 := by simpa [attention] using ha
  obtain ⟨k, hk⟩ : ∃ k, (s.notices.causes &&& s.notices.enables).getLsbD k = true := by
    by_contra hnone
    refine hne (BitVec.eq_of_getLsbD_eq fun k _ => ?_)
    rw [Bool.eq_false_iff.mpr fun h => hnone ⟨k, h⟩]
    simp
  rw [BitVec.getLsbD_and, Bool.and_eq_true] at hk
  have hbit : (t.notices.causes &&& t.notices.enables).getLsbD k = true := by
    rw [BitVec.getLsbD_and, henables, hcauses k hk.1, hk.2]; rfl
  rw [attention, bne_iff_ne]
  intro hzero
  rw [hzero] at hbit
  simp at hbit

/-! ## The state that the return frame shows -/

theorem slotState_shown (o : FrameOrder) (s : State) :
    (slotState o s).dog = s.dog ∧ (slotState o s).trunk = s.trunk ∧ (slotState o s).route = s.route ∧
      (slotState o s).cues = s.cues ∧ (slotState o s).tx = s.tx ∧ (slotState o s).ret = s.ret ∧
      (slotState o s).pins.unit = s.pins.unit := by
  have hsend : let u := sendFrame o s (storeTake (closePolls o.pollsFirst s)).1 (readied o s)
      u.dog = s.dog ∧ u.trunk = s.trunk ∧ u.route = s.route ∧ u.cues = s.cues ∧ u.tx = s.tx ∧ u.ret = s.ret ∧
      u.pins.unit = s.pins.unit := by
    intro u
    have hu : u = _ := sendFrame_only o s _ (readied o s)
    rw [hu, readied_eq]
    exact ⟨rfl, rfl, rfl, rfl, rfl, rfl, rfl⟩
  rw [slotState]
  cases hfirst : o.returnFirst with
  | true => exact hsend
  | false =>
    have hsent : sentFrame o s = sendFrame o s (storeTake (closePolls o.pollsFirst s)).1 (readied o s) := by
      rw [sentFrame, hfirst]; rfl
    rw [if_neg Bool.false_ne_true, eventsDone, frameEvents_only, hsent]
    exact hsend

theorem slotState_reports (o : FrameOrder) (s : State) :
    s.reports.queue <+: (slotState o s).reports.queue ∧ (o.returnFirst = true → (slotState o s).reports = s.reports) := by
  have hsend := (sendFrame_slot o s (storeTake (closePolls o.pollsFirst s)).1).2.1
  rw [slotState]
  cases hfirst : o.returnFirst with
  | true =>
    rw [if_pos rfl, hsend]
    exact ⟨List.prefix_rfl, fun _ => rfl⟩
  | false =>
    have hsent : (sentFrame o s).reports = s.reports := by rw [sentFrame_reports, hfirst]; rfl
    rw [if_neg Bool.false_ne_true]
    refine ⟨?_, fun h => absurd h Bool.false_ne_true⟩
    have hgrows := frameEvents_grows (chimeEnds (readied o s)) (sentFrame o s)
    unfold ReportsGrow at hgrows
    rw [hsent] at hgrows
    exact hgrows

theorem slotState_announce (o : FrameOrder) (s : State) :
    announceState (slotState o s) = announceState (if o.returnFirst then s else runFrame o s) := by
  rw [slotState]
  cases o.returnFirst with
  | true =>
    have hann : (sendFrame o s (storeTake (closePolls o.pollsFirst s)).1 (readied o s)).ann = (chimeStep (readied o s)).ann := by
      rw [sendFrame_only]
    have hstep : (chimeStep (readied o s)).ann.queue = (readied o s).ann.queue := rfl
    have hqueue := hstep.trans (congrArg Announcer.queue (readied_shown o s).2.1)
    rw [if_pos rfl, if_pos rfl, announceState, activeEntry_congr ((congrArg Announcer.queue hann).trans hqueue), announceState]
  | false =>
    rw [if_neg Bool.false_ne_true, if_neg Bool.false_ne_true, announceState, announceState, runFrame_active]

theorem slotState_keeps (o : FrameOrder) (s : State) :
    CausesKept s (slotState o s) ∧ CausesKept (slotState o s) (runFrame o s) ∧
      (o.returnFirst = false → (runFrame o s).notices = (slotState o s).notices) := by
  have htaken : CausesKept s (chimeStep (readied o s)) :=
    (closePolls_keeps _ _).trans ((storeTake_keeps _).trans (.of_eq (by
      rw [chimeStep, State.withAnn_notices, readied, prepared_notices])))
  have hsend : CausesKept s (sendFrame o s (storeTake (closePolls o.pollsFirst s)).1 (readied o s)) :=
    htaken.trans ((closePolls_keeps _ _).trans (sendFrame_keeps o s _ (readied o s)))
  rw [runFrame_eq, ← eventsDone, slotState]
  have hsent : CausesKept (sendFrame o s (storeTake (closePolls o.pollsFirst s)).1 (readied o s)) (sentFrame o s) :=
    sendReturnIf_keeps _ _
  have hevents : CausesKept (sentFrame o s) (eventsDone o s) := frameEvents_keeps _ _
  cases o.returnFirst with
  | true => exact ⟨hsend, hsent.trans (hevents.trans (sendReturnIf_keeps _ _)), fun h => absurd h.symm Bool.false_ne_true⟩
  | false =>
    refine ⟨hsend.trans (hsent.trans hevents), sendReturnIf_keeps _ _, fun _ => ?_⟩
    rw [sendReturnIf_only]
    rfl

/-- Settles O19. -/
theorem outputFrameSendsCheckedFrames : Obligations.OutputFrameSendsCheckedFrames := by
  intro o s hs
  have hout := runFrame_out o s
  have hpins := runFrame_pins o s
  have hsamples := frameSamples_get o s
  have hrange := heardSample_range o s (runFrame o s)
  have hlines := runFrame_lines o s
  obtain ⟨htx, hret, hreports⟩ := runFrame_slot o s
  obtain ⟨hdog, htrunk, hroute, hcues, hslotTx, hslotRet, hslotUnit⟩ := slotState_shown o s
  obtain ⟨hgrows, hsame⟩ := slotState_reports o s
  obtain ⟨hkept, hkeptAfter, hnotices⟩ := slotState_keeps o s
  obtain ⟨f0, f1, f3, f9, f12, f15, f5, f8, f7⟩ := statusWord_fields (slotState o s)
  have hannounce := slotState_announce o s
  refine ⟨runFrame o s, exec_outputFrame o hs, hpins, ?_⟩
  generalize runFrame o s = t at *
  generalize slotState o s = u at *
  rw [hout]
  have hpa := sampleWord (hrange 64).1 (hrange 64).2
  refine ⟨rfl, rfl, hrange, ?pa, rfl, fun i => ⟨fun hon => ?enabled, fun hoff => ?disabled⟩, returnFrame_length _ _ _,
    returnFrame_checked _ _ _, ⟨statusWord u, fun j => ?status, ?health, ?lock, ?session, ?position, ?band, f15, ?announce,
      fun hfirst => ?pending, fun hwaits => ?waiting, fun hlast => ?attention, fun hatt => ?attends, fun hbit => ?shown,
      sentAttention u, returnFrame_attention _ _ _, fun k => ?mask⟩,
    ⟨u, hslotTx, hslotRet, hslotUnit, hgrows, hsame, returnFrame_slot _ _ _, htx, hret, hreports⟩⟩
  case pa =>
    change (BitVec.ofInt 16 (frameSamples o s)[paIndex]).toInt = _
    rw [hsamples]
    exact hpa.1
  case enabled =>
    have hframe : (Vector.ofFn (lineFrame s (frameSamples o s)))[i] =
        seatFrame (lineSamples (frameSamples o s) i) (pollWord s i) := by
      rw [Fin.getElem_fin, Vector.getElem_ofFn]
      exact if_pos hon
    change (Vector.ofFn (lineFrame s (frameSamples o s)))[i].length = 19 ∧
      Checked (Vector.ofFn (lineFrame s (frameSamples o s)))[i] ∧ _
    dsimp only
    rw [hframe]
    refine ⟨seatFrame_length _ _ _, seatFrame_checked _ _, fun k => ?_, ?_, ?_⟩
    · have hword := sampleWord (hrange (Fin.ofNat 65 (i.val * 16 + k.val))).1 (hrange (Fin.ofNat 65 (i.val * 16 + k.val))).2
      refine ⟨_, seatFrame_sample _ _ _ k, ?_⟩
      rw [hsamples]
      exact ⟨hword.2, hword.1⟩
    · rw [seatFrame_poll, pollWord, lampLit_eq]
    · rw [hlines]; exact (lineSent_closed _).1 hon
  case disabled =>
    have hframe : (Vector.ofFn (lineFrame s (frameSamples o s)))[i] = [] := by
      rw [Fin.getElem_fin, Vector.getElem_ofFn]
      exact if_neg (by rw [hoff]; exact Bool.false_ne_true)
    refine ⟨hframe, ?_⟩
    rw [hlines]
    exact (lineSent_closed _).2 hoff
  case status =>
    refine (returnFrame_status _ _ _ j).trans (congrArg some ?_)
    rw [sentStatus_get, hslotUnit, hslotRet]
  case health => rw [f0, hdog]
  case lock => rw [f1, htrunk]
  case session => rw [f3, hroute]
  case position => rw [f9, hroute]
  case band => rw [f12, hcues]
  case announce => rw [f5, hannounce]
  case pending => rw [f8, hsame hfirst]
  case waiting =>
    rw [f8]
    refine decide_eq_true fun hnil => hwaits ?_
    rw [hnil] at hgrows
    exact List.prefix_nil.mp hgrows
  case attention => rw [f7, hnotices hlast]
  case attends => rw [f7]; exact attention_kept hkept hatt
  case shown => rw [f7] at hbit; exact attention_kept hkeptAfter hbit
  case mask => rw [sentAttention_get, hslotUnit, hslotRet, f7]

end Sys2Proof.Machine

/-! # Proofs: the rows that name what comes about inside another step (O3) -/

namespace Sys2Proof.Machine

set_option Elab.async false

/-- A row that is an occurrence of a step is that step where it is due, and changes nothing where it is not. -/
theorem row_of_occurrence {c step : Instr} {f : State → State} {b : Bool} {s : State} {due : State → Prop}
    (hstep : exec step s = .next (f s)) (hrow : exec c s = occurrence b f s)
    (hdue : s.pins.held = false → (b = true ↔ due (f s))) :
    ∃ t, exec step s = .next t ∧ (s.pins.held = false → due t → exec c s = .next t) ∧
      (s.pins.held = true ∨ ¬due t → exec c s = .next s) := by
  refine ⟨f s, hstep, fun hs hnamed => ?_, fun hnot => ?_⟩
  · rw [hrow, occurrence_due ((hdue hs).mpr hnamed) hs]
  · rw [hrow]
    refine occurrence_not ?_
    rcases hnot with hheld | hnot
    · exact .inr hheld
    · cases hs : s.pins.held with
      | true => exact .inr rfl
      | false => exact .inl (Bool.eq_false_iff.mpr (mt (hdue hs).mp hnot))

/-! ## When each row is due -/

theorem healthLeaves_ok (s t : State) :
    healthLeaves .ok s t = true ↔ s.dog.health = .ok ∧ t.dog.health = .lost := by
  cases hs : s.dog.health <;> cases ht : t.dog.health <;> simp [healthLeaves, hs, ht]

theorem healthLeaves_lost (s t : State) :
    healthLeaves .lost s t = true ↔ s.dog.health = .lost ∧ t.dog.health = .ok := by
  cases hs : s.dog.health <;> cases ht : t.dog.health <;> simp [healthLeaves, hs, ht]

theorem reachesNotBefore_iff (s : State) :
    reachesNotBefore s = true ↔ ∃ e q, s.ann.queue = e :: q ∧ e.notBefore = some (s.now + 1) := by
  unfold reachesNotBefore
  cases hqueue : s.ann.queue with
  | nil => simp
  | cons e q =>
    have hgo : (!mayGo s.now e && mayGo (s.now + 1) e) = true ↔ e.notBefore = some (s.now + 1) := by
      unfold mayGo
      cases e.notBefore with
      | none => simp
      | some n =>
        simp only [Bool.and_eq_true, Bool.not_eq_true', decide_eq_false_iff_not, decide_eq_true_eq, Option.some.injEq]
        omega
    rw [hgo]
    constructor
    · exact fun h => ⟨e, q, rfl, h⟩
    · rintro ⟨e', q', hcons, h⟩
      obtain ⟨rfl, -⟩ := List.cons.inj hcons
      exact h

theorem endsWith_iff (st : EntryState) (why : Reason) (s t : State) :
    endsWith st why s t = true ↔ ∃ e e', activeEntry s = some e ∧ e.state = st ∧ activeEntry t = some e' ∧
      e'.state = .trailing ∧ e'.reason = some why := by
  rw [endsWith, announceState, announceState]
  cases activeEntry s with
  | none => simp
  | some e =>
    cases activeEntry t with
    | none => simp
    | some e' => simp [and_assoc]

theorem blockEnds_iff (s : State) : blockEnds s = true ↔ 255 ≤ s.meter.blockPos := by
  rw [blockEnds, decide_eq_true_eq]
  change 256 ≤ s.meter.blockPos + 1 ↔ _
  omega

theorem switches_iff (i : Fin 65) (s t : State) : switches i s t = true ↔
    s.seats.records[i].phase = .fadeOut ∧ t.seats.records[i].phase = .fadeIn ∧ t.seats.records[i].fade = 0 := by
  rw [switches, Bool.and_eq_true, Bool.and_eq_true, beq_iff_eq, beq_iff_eq, beq_iff_eq, and_assoc]

theorem fadesIn_iff (i : Fin 65) (s t : State) : fadesIn i s t = true ↔
    s.seats.records[i].phase = .fadeIn ∧ t.seats.records[i].phase = .steady := by
  rw [fadesIn, Bool.and_eq_true, beq_iff_eq, beq_iff_eq]

theorem reachMoves_iff (line : Fin 4) (a b : Reach) (s t : State) : reachMoves line a b s t = true ↔
    ∃ k : Fin 8, s.lines[line].boxes[k].reach = a ∧ t.lines[line].boxes[k].reach = b := by
  rw [reachMoves, List.any_eq_true]
  refine exists_congr fun k => ?_
  rw [Bool.and_eq_true, beq_iff_eq, beq_iff_eq]
  exact and_iff_right (List.mem_finRange k)

theorem jackConfirms_iff (line : Fin 4) (s t : State) : jackConfirms line s t = true ↔
    ∃ k : Fin 16, t.lines[line].jacks[k].confirmed ≠ s.lines[line].jacks[k].confirmed := by
  rw [jackConfirms, List.any_eq_true]
  refine exists_congr fun k => ?_
  rw [bne_iff_ne]
  exact and_iff_right (List.mem_finRange k)

theorem noteEnds_iff (s : State) : noteEnds s = true ↔ ∃ c n, s.ann.chime = some c ∧ c.notes[c.note]? = some n ∧
    n.duration * 16 ≤ c.frame + 1 ∧ c.note + 1 < c.notes.length := by
  unfold noteEnds
  cases s.ann.chime with
  | none => simp
  | some c =>
    cases hnote : c.notes[c.note]? with
    | none => simp [chimeAdvance, hnote]
    | some n =>
      rcases Nat.lt_or_ge (c.frame + 1) (n.duration * 16) with hframe | hframe
      · rw [chimeAdvance_within hnote hframe]
        simp [hnote, hframe]
      · rcases Nat.lt_or_ge (c.note + 1) c.notes.length with hmore | hend
        · rw [chimeAdvance_next hnote hframe hmore]
          simp [hnote, hframe, hmore]
        · rw [chimeAdvance_last hnote hframe hend]
          simp [hend]

theorem chimeEnds_iff (s : State) : chimeEnds s = true ↔ ∃ c, s.ann.chime = some c ∧
    ∀ n, c.notes[c.note]? = some n → n.duration * 16 ≤ c.frame + 1 ∧ c.notes.length ≤ c.note + 1 := by
  unfold chimeEnds
  cases s.ann.chime with
  | none => simp
  | some c =>
    cases hnote : c.notes[c.note]? with
    | none => simp [chimeAdvance, hnote]
    | some n =>
      rcases Nat.lt_or_ge (c.frame + 1) (n.duration * 16) with hframe | hframe
      · rw [chimeAdvance_within hnote hframe]
        simp [hnote, hframe]
      · rcases Nat.lt_or_ge (c.note + 1) c.notes.length with hmore | hend
        · rw [chimeAdvance_next hnote hframe hmore]
          simp [hnote, hmore]
        · rw [chimeAdvance_last hnote hframe hend]
          simp [hnote, hframe, hend]

theorem trailingEnds_iff {o : FrameOrder} {s : State} (hs : s.pins.held = false) :
    trailingEnds s = true ↔ announceState s = some .trailing ∧ (outputFrame o s).mixer.duck = 32767 := by
  rw [trailingEnds, Bool.and_eq_true, beq_iff_eq, beq_iff_eq, outputFrame_running hs, (runFrame_ramps o s).1]
  rfl

theorem overlayEnds_iff (z : Fin 16) (s t : State) : overlayEnds z s t = true ↔
    s.lights.zones[z].overlay ≠ none ∧ t.lights.zones[z].overlay = none := by
  rw [overlayEnds, Bool.and_eq_true, Option.isSome_iff_ne_none, Option.isNone_iff_eq_none]

theorem becomesStale_iff (s t : State) : becomesStale s t = true ↔
    s.route.status ≠ .stale ∧ t.route.status = .stale := by
  rw [becomesStale, Bool.and_eq_true, bne_iff_ne, beq_iff_eq]

theorem bandConfirms_iff (s t : State) : bandConfirms s t = true ↔
    t.cues.ambient.confirmed ≠ none ∧ t.cues.ambient.confirmed ≠ s.cues.ambient.confirmed := by
  rw [bandConfirms, Bool.and_eq_true, Option.isSome_iff_ne_none, bne_iff_ne]

theorem sensorFails_iff (s t : State) : sensorFails s t = true ↔
    s.cues.ambient.invalidRun = 2 ∧ t.cues.ambient.invalidRun = 3 := by
  rw [sensorFails, Bool.and_eq_true, beq_iff_eq, beq_iff_eq]
  change s.cues.ambient.invalidRun + 1 = 3 ∧ t.cues.ambient.invalidRun = 3 ↔ _
  omega

/-- Settles O3. -/
theorem namedEventsAreTheirStep : Obligations.NamedEventsAreTheirStep := by
  intro s wf o r i w z x row ends
  exact ⟨row_of_occurrence rfl rfl fun _ => healthLeaves_ok _ _,
    row_of_occurrence rfl rfl fun _ => healthLeaves_lost _ _,
    row_of_occurrence rfl rfl fun _ => beq_iff_eq,
    row_of_occurrence rfl rfl fun _ => reachesNotBefore_iff s,
    row_of_occurrence rfl rfl fun _ => endsWith_iff _ _ _ _,
    row_of_occurrence rfl rfl fun _ => endsWith_iff _ _ _ _,
    row_of_occurrence rfl rfl fun _ => blockEnds_iff s,
    row_of_occurrence rfl rfl fun _ => endsWith_iff _ _ _ _,
    row_of_occurrence rfl rfl fun _ => switches_iff _ _ _,
    row_of_occurrence rfl rfl fun _ => fadesIn_iff _ _ _,
    row_of_occurrence rfl rfl fun _ => reachMoves_iff _ _ _ _ _,
    row_of_occurrence rfl rfl fun _ => noteEnds_iff s,
    row_of_occurrence rfl rfl fun _ => chimeEnds_iff s,
    row_of_occurrence rfl rfl trailingEnds_iff,
    row_of_occurrence rfl rfl fun _ => jackConfirms_iff _ _ _,
    row_of_occurrence rfl rfl fun _ => reachMoves_iff _ _ _ _ _,
    row_of_occurrence rfl rfl fun _ => overlayEnds_iff _ _ _,
    row_of_occurrence rfl rfl fun _ => becomesStale_iff _ _,
    row_of_occurrence rfl rfl fun _ => bandConfirms_iff _ _,
    row_of_occurrence rfl rfl fun _ => sensorFails_iff _ _⟩

end Sys2Proof.Machine

/-! # Proofs: the return link (O28, O29) -/

namespace Sys2Proof.Machine

set_option Elab.async false

/-! ## Return-in: the lock and its frames (R34) -/

/-- A return-in word while the part runs: it is passed through where that stands, and the lock and its event follow. -/
theorem exec_returnInWord {w : Word} {s : State} (hs : s.pins.held = false) {l : FrameLock} {e : LockEvent}
    (h : lockStep 8 s.ret.rx w = (l, e)) :
    exec (.returnInWord w) s = .next (returnEvent e ((passWord w s).withRet { s.ret with rx := l })) := by
  have hpassed : (passWord w s).pins = s.pins ∧ (passWord w s).ret = s.ret := by
    unfold passWord; split <;> exact ⟨rfl, rfl⟩
  change Host.Outcome.next (running (returnReceive w) (passWord w s)) = _
  rw [running_free (by rw [hpassed.1, hs]), returnReceive]
  dsimp only
  rw [hpassed.2, h]

/-- The tracker when it loses a word (R35). -/
theorem trackLost_withRet (s : State) (r : ReturnIn) : trackLost (s.withRet r) = s.withRet
    (if r.track = .inMessage then { r with
      track := .skip, esc := false
      hold := modifyLast (fun m => ⟨if r.esc = true then m.words.dropLast else m.words, true, true⟩) r.hold }
    else { r with esc := false }) := by
  obtain ⟨rx, status, attention, track, esc, hold⟩ := r
  cases track <;> rfl

theorem modifyLast_append {α : Type} (f : α → α) (l : List α) (a : α) : modifyLast f (l ++ [a]) = l ++ [f a] := by
  induction l with
  | nil => rfl
  | cons b l ih =>
    cases l with
    | nil => rfl
    | cons c l => exact congrArg (b :: ·) ih

/-- A good frame of return-in: its status words but the own unit's, its mask, and its reply-slot word (R34). -/
theorem takeReturnFrame_eq {words : List Word} (w : Word) (hlen : words.length = 7) (s : State) (r : ReturnIn) :
    takeReturnFrame (words ++ [w]) (s.withRet r) = trackWord (words.getD 6 0) (s.withRet { r with
      attention := words.getD 5 0
      status := Vector.ofFn fun i => if i.val = s.pins.unit.toNat then r.status[i] else words.getD (i.val + 1) 0 }) := by
  have hget {k : Nat} (hk : k < 7) : (words ++ [w]).getD k 0 = words.getD k 0 :=
    List.getD_append _ _ _ _ (by omega)
  have hstatus : heldStatus (ownPlace s) (words ++ [w]) r.status =
      Vector.ofFn fun i => if i.val = s.pins.unit.toNat then r.status[i] else words.getD (i.val + 1) 0 := by
    unfold heldStatus
    congr 1
    funext i
    rw [hget (by omega)]
    exact if_congr Fin.ext_iff rfl rfl
  unfold takeReturnFrame
  rw [hget (by decide), hget (by decide)]
  exact congrArg (fun v => trackWord (words.getD 6 0) (s.withRet { r with status := v, attention := words.getD 5 0 })) hstatus

/-! ## The tracker (R35) -/

/-- A SOM pair outside a message opens one where two words fit (R35). -/
theorem openHeld_room {s : State} (h : holdCount s.ret.hold + 2 ≤ 32) :
    openHeld s = s.withRet { s.ret with
      track := .inMessage, esc := false, hold := s.ret.hold ++ [⟨[0x1B1B#16, 0x0001#16], false, false⟩] } := if_pos h

theorem openHeld_full {s : State} (h : 32 < holdCount s.ret.hold + 2) :
    openHeld s = (s.withRet { s.ret with track := .skip, esc := false }).withNotices
      ⟨s.notices.causes ||| 0x800#12, s.notices.enables⟩ := if_neg (Nat.not_le.mpr h)

/-- The tracker's state written again as it stands. -/
theorem setTrack_same {s : State} {k : TrackState} (h : s.ret.track = k) (esc : Bool) (hold : List HeldMessage) :
    setTrack k esc hold s = s.withRet { s.ret with esc := esc, hold := hold } := by
  subst h; rfl

section Outside

variable {s : State} {w : Word}

theorem trackWord_outside_word (htrack : s.ret.track ≠ .inMessage) (hesc : s.ret.esc = false) :
    trackWord w s = s.withRet { s.ret with esc := decide (w = 0x1B1B#16) } := by
  unfold trackWord
  cases h : s.ret.track with
  | outside => exact (if_neg (by rw [hesc]; decide)).trans (setTrack_same h _ _)
  | inMessage => exact absurd h htrack
  | skip => exact (if_neg (by rw [hesc]; decide)).trans (setTrack_same h _ _)

theorem trackWord_outside_som (htrack : s.ret.track ≠ .inMessage) (hesc : s.ret.esc = true) (hw : w = 0x0001#16) :
    trackWord w s = openHeld s := by
  unfold trackWord
  cases h : s.ret.track with
  | outside => rw [hesc, hw]; rfl
  | inMessage => exact absurd h htrack
  | skip => rw [hesc, hw]; rfl

theorem trackWord_outside_end (htrack : s.ret.track ≠ .inMessage) (hesc : s.ret.esc = true)
    (hw : w = 0x0002#16 ∨ w = 0x0003#16) :
    trackWord w s = s.withRet { s.ret with track := .outside, esc := false } := by
  have hsom : ¬w = somWord := by rcases hw with rfl | rfl <;> decide
  have hend : w = eomWord ∨ w = abtWord := hw
  unfold trackWord
  cases h : s.ret.track with
  | outside => rw [hesc]; exact if_neg hsom
  | inMessage => exact absurd h htrack
  | skip => rw [hesc]; exact (if_neg hsom).trans (if_pos hend)

theorem trackWord_outside_pair (htrack : s.ret.track ≠ .inMessage) (hesc : s.ret.esc = true) (h1 : w ≠ 0x0001#16)
    (h2 : w ≠ 0x0002#16) (h3 : w ≠ 0x0003#16) : trackWord w s = s.withRet { s.ret with esc := false } := by
  have hend : ¬(w = eomWord ∨ w = abtWord) := fun h => h.elim h2 h3
  unfold trackWord
  cases h : s.ret.track with
  | outside => exact ((if_pos hesc).trans (if_neg h1)).trans (setTrack_same h _ _)
  | inMessage => exact absurd h htrack
  | skip => exact ((if_pos hesc).trans ((if_neg h1).trans (if_neg hend))).trans (setTrack_same h _ _)

end Outside

section Message

variable {s : State} {w : Word} {rest : List HeldMessage} {m : HeldMessage}

theorem holdCount_snoc (rest : List HeldMessage) (m : HeldMessage) :
    holdCount (rest ++ [m]) = holdCount rest + m.words.length := by
  rw [holdCount_append, holdCount_cons]; rfl

theorem trackWord_in (htrack : s.ret.track = .inMessage) :
    trackWord w s = if s.ret.esc then inPair w s else inWord w s := by
  rw [trackWord, htrack]

theorem inWord_room (hhold : s.ret.hold = rest ++ [m]) (hw : w ≠ 0) (hroom : holdCount s.ret.hold < 32) :
    inWord w s = s.withRet { s.ret with
      track := .inMessage, esc := decide (w = 0x1B1B#16), hold := rest ++ [{ m with words := m.words ++ [w] }] } := by
  have hhold' : appendHeld w s.ret.hold = rest ++ [{ m with words := m.words ++ [w] }] := by
    rw [hhold]; exact modifyLast_append _ _ _
  rw [← hhold']
  exact (if_neg hw).trans (if_pos hroom)

theorem inWord_full (hhold : s.ret.hold = rest ++ [m]) (hesc : s.ret.esc = false) (hw : w ≠ 0)
    (hfull : ¬holdCount s.ret.hold < 32) :
    inWord w s = (s.withRet { s.ret with
      track := .skip, esc := decide (w = 0x1B1B#16), hold := rest ++ [⟨m.words, true, true⟩] }).withNotices
        ⟨s.notices.causes ||| 0x800#12, s.notices.enables⟩ := by
  have hhold' : modifyLast (truncated s.ret.esc) s.ret.hold = rest ++ [⟨m.words, true, true⟩] := by
    rw [hhold, hesc]; exact modifyLast_append _ _ _
  rw [← hhold']
  exact (if_neg hw).trans (if_neg hfull)

theorem pairedHold_som (rest : List HeldMessage) (m : HeldMessage) :
    pairedHold 0x0001#16 (rest ++ [m]) = rest ++ [{ m with words := m.words.dropLast, closed := true }] ++
      [⟨[0x1B1B#16, 0x0001#16], false, false⟩] := by
  have hnext : pairedHold 0x0001#16 (rest ++ [m]) = nextHeld (rest ++ [m]) := if_pos rfl
  rw [hnext, nextHeld, modifyLast_append]
  rfl

theorem pairedHold_end (hw : w = 0x0002#16 ∨ w = 0x0003#16) (rest : List HeldMessage) (m : HeldMessage) :
    pairedHold w (rest ++ [m]) = rest ++ [{ m with words := m.words ++ [w], closed := true }] := by
  have hsom : ¬w = somWord := by rcases hw with rfl | rfl <;> decide
  have hend : w = eomWord ∨ w = abtWord := hw
  rw [pairedHold, if_neg hsom, if_pos hend, closeHeld, appendHeld, modifyLast_append, modifyLast_append]

theorem pairedHold_other (h1 : w ≠ 0x0001#16) (h2 : w ≠ 0x0002#16) (h3 : w ≠ 0x0003#16) (rest : List HeldMessage)
    (m : HeldMessage) : pairedHold w (rest ++ [m]) = rest ++ [{ m with words := m.words ++ [w] }] := by
  have hend : ¬(w = eomWord ∨ w = abtWord) := fun h => h.elim h2 h3
  have hsom : ¬w = somWord := h1
  rw [pairedHold, if_neg hsom, if_neg hend, appendHeld, modifyLast_append]

/-- A pair in a message takes one word more than are held. -/
theorem holdCount_pairedHold (w : Word) (hm : m.words ≠ []) (rest : List HeldMessage) :
    holdCount (pairedHold w (rest ++ [m])) = holdCount (rest ++ [m]) + 1 := by
  have hpos : 0 < m.words.length := List.length_pos_iff.mpr hm
  rw [holdCount_snoc rest m]
  by_cases h1 : w = 0x0001#16
  · subst h1
    rw [pairedHold_som, holdCount_snoc, holdCount_snoc, List.length_dropLast]
    change holdCount rest + (m.words.length - 1) + 2 = _
    omega
  by_cases hend : w = 0x0002#16 ∨ w = 0x0003#16
  · rw [pairedHold_end hend, holdCount_snoc, List.length_append, Nat.add_assoc]; rfl
  · rw [not_or] at hend
    rw [pairedHold_other h1 hend.1 hend.2, holdCount_snoc, List.length_append, Nat.add_assoc]; rfl

theorem inPair_room (hhold : s.ret.hold = rest ++ [m]) (hm : m.words ≠ []) (hroom : holdCount s.ret.hold < 32) :
    inPair w s = s.withRet { s.ret with
      track := if w = eomWord ∨ w = abtWord then .outside else .inMessage, esc := false
      hold := pairedHold w (rest ++ [m]) } := by
  have hfits : holdCount (pairedHold w s.ret.hold) ≤ Config.holdDepth := by
    rw [hhold, holdCount_pairedHold w hm, ← hhold]; exact hroom
  rw [← hhold]
  exact if_pos hfits

theorem trackWord_pair (htrack : s.ret.track = .inMessage) (hesc : s.ret.esc = true) (hhold : s.ret.hold = rest ++ [m])
    (hm : m.words ≠ []) (hroom : holdCount s.ret.hold < 32) : trackWord w s = s.withRet { s.ret with
      track := if w = eomWord ∨ w = abtWord then .outside else .inMessage, esc := false
      hold := pairedHold w (rest ++ [m]) } :=
  (trackWord_in htrack).trans ((if_pos hesc).trans (inPair_room hhold hm hroom))

theorem inPair_full (hhold : s.ret.hold = rest ++ [m]) (hm : m.words ≠ []) (hesc : s.ret.esc = true)
    (hfull : ¬holdCount s.ret.hold < 32) :
    inPair w s = (s.withRet { s.ret with
      track := .skip, esc := false, hold := rest ++ [⟨m.words.dropLast, true, true⟩] }).withNotices
        ⟨s.notices.causes ||| 0x800#12, s.notices.enables⟩ := by
  have hover : ¬holdCount (pairedHold w s.ret.hold) ≤ Config.holdDepth := by
    rw [hhold, holdCount_pairedHold w hm, ← hhold]; exact fun h => hfull h
  have hhold' : modifyLast (truncated s.ret.esc) s.ret.hold = rest ++ [⟨m.words.dropLast, true, true⟩] := by
    rw [hhold, hesc]; exact modifyLast_append _ _ _
  rw [← hhold']
  exact if_neg hover

end Message

/-- Settles O28. -/
theorem returnInHoldsAGoodFrame : Obligations.ReturnInHoldsAGoodFrame := by
  refine ⟨fun w s hs => ?lock, fun w s => ?outside, fun w s rest m htrack hhold => ?message⟩
  case lock =>
    intro p l goes at_ dropped
    have hpins : p.pins = s.pins := by
      change (if s.pins.passThrough = true then _ else s).pins = _
      split <;> rfl
    have moves {x : FrameLock} (h : lockStep 8 l w = (x, .quiet)) : goes (at_ x) := exec_returnInWord hs h
    have loses {x : FrameLock} (h : lockStep 8 l w = (x, .hunting)) : goes (dropped (at_ x)) :=
      (exec_returnInWord hs h).trans (congrArg Host.Outcome.next (trackLost_withRet p (at_ x)))
    refine ⟨fun h hw => moves (lockStep_hunt_other h hw), fun h hw => moves (by rw [hw]; exact lockStep_hunt_sync h),
      fun h hpos => moves (lockStep_verify_within h (by omega)),
      fun h hpos hw => moves (lockStep_verify_sync h (by omega) hw),
      fun h hpos hw => loses (lockStep_verify_other h (by omega) hw),
      fun h hpos => moves (lockStep_counted_within h (by omega)),
      fun h hpos hw => moves (lockStep_counted_sync h (by omega) hw),
      fun h hpos hw => moves (lockStep_locked_other h (by omega) hw),
      fun h hpos hw hmiss => moves (lockStep_flywheel_other h (by omega) hw hmiss),
      fun h hpos hw hmiss => loses (lockStep_flywheel_lost h (by omega) hw (by omega)), fun hpos hbad => ?bad,
      fun hpos h hlen hsum => ?good⟩
    case bad =>
      have hcounted : l.lock = .locked ∨ l.lock = .flywheel := hbad.elim .inr fun h => .inl h.1
      have hnotGood : goodFrame (l.words ++ [w]) (l.lock == .locked) = false := by
        rcases hbad with h | ⟨h, hsum⟩
        · rw [goodFrame, h]; rfl
        · rw [goodFrame, h, beq_eq_false_iff_ne.mpr hsum]; rfl
      have hstep := lockStep_counted_end (n := 8) (w := w) hcounted (by omega)
      rw [hpos] at hstep
      refine (exec_returnInWord hs hstep).trans (congrArg Host.Outcome.next ?_)
      rw [returnEvent, hnotGood]
      exact trackLost_withRet p _
    case good =>
      have hgood : goodFrame (l.words ++ [w]) (l.lock == .locked) = true := by
        rw [goodFrame, h, hsum]; rfl
      have hstep := lockStep_counted_end (n := 8) (w := w) (.inl h) (by omega)
      rw [hpos] at hstep
      refine (exec_returnInWord hs hstep).trans (congrArg Host.Outcome.next ?_)
      rw [returnEvent, hgood]
      refine (takeReturnFrame_eq w hlen p _).trans ?_
      rw [hpins]
  case outside =>
    intro goes full opens
    refine ⟨trackWord_outside_word, fun htrack hesc hw => ?_, trackWord_outside_end, trackWord_outside_pair⟩
    have hopens : trackWord w s = openHeld s := trackWord_outside_som htrack hesc hw
    exact ⟨fun h => hopens.trans (openHeld_room h), fun h => hopens.trans (openHeld_full h)⟩
  case message =>
    intro goes full room
    refine ⟨fun hesc hw => ?fill, fun hesc hw => ⟨fun hroom => ?wordRoom, fun hfull => ?wordFull⟩,
      fun hesc hm => ⟨fun hroom hw => ?som, fun hroom hw => ?ends, fun hroom h1 h2 h3 => ?pair, fun hfull => ?pairFull⟩⟩
    case fill => rw [trackWord_in htrack, hesc]; exact if_pos hw
    case wordRoom =>
      have hword := (trackWord_in htrack).trans ((if_neg (by rw [hesc]; decide)).trans (inWord_room hhold hw hroom))
      exact hword.trans (setTrack_same htrack _ _)
    case wordFull =>
      exact (trackWord_in htrack).trans ((if_neg (by rw [hesc]; decide)).trans (inWord_full hhold hesc hw hfull))
    case som =>
      have hpair := trackWord_pair (w := w) htrack hesc hhold hm hroom
      subst hw
      rw [pairedHold_som, if_neg (by decide)] at hpair
      exact hpair.trans (setTrack_same htrack _ _)
    case ends =>
      have hpair := trackWord_pair (w := w) htrack hesc hhold hm hroom
      rw [pairedHold_end hw, if_pos (show w = eomWord ∨ w = abtWord from hw)] at hpair
      exact hpair
    case pair =>
      have hpair := trackWord_pair (w := w) htrack hesc hhold hm hroom
      rw [pairedHold_other h1 h2 h3, if_neg (show ¬(w = eomWord ∨ w = abtWord) from fun h => h.elim h2 h3)] at hpair
      exact hpair.trans (setTrack_same htrack _ _)
    case pairFull =>
      exact (trackWord_in htrack).trans ((if_pos hesc).trans (inPair_full hhold hm hesc hfull))

/-! ## The return transmitter (R36) -/

theorem replySlots_succ (n : Nat) (s : State) :
    replySlots (n + 1) s = ((replySlot s).1 :: (replySlots n (replySlot s).2).1, (replySlots n (replySlot s).2).2) := rfl

/-- A report on its way goes out word by word, and the turn passes downstream. -/
theorem replySlots_sending (w : Word) (ws : List Word) (s : State) (h : s.tx.mode = .sending (w :: ws)) :
    replySlots (w :: ws).length s = (w :: ws, s.withTx ⟨.idle, .downstreamNext⟩) := by
  induction ws generalizing w s with
  | nil =>
    have hslot : replySlot s = (w, setTx .idle .downstreamNext s) := by rw [replySlot, h]
    rw [List.length_singleton, replySlots_succ, hslot]
    rfl
  | cons v ws ih =>
    have hslot : replySlot s = (w, setTx (.sending (v :: ws)) .none s) := by rw [replySlot, h]
    rw [List.length_cons, replySlots_succ, hslot]
    dsimp only
    rw [ih v (setTx (.sending (v :: ws)) .none s) rfl]
    rfl

/-- The choice of IDLE for the front report. -/
theorem replySlot_begins {s : State} {r : Report} {q : List Report} (hidle : s.tx.mode = .idle)
    (hqueue : s.reports.queue = r :: q) (hturn : s.ret.hold = [] ∨ s.tx.turn = .localNext) :
    replySlot s = beginLocal r q s := by
  rw [replySlot, hidle]
  dsimp only
  rw [chooseWord, hqueue]
  cases hhold : s.ret.hold with
  | nil => rfl
  | cons m ms => exact if_pos (hturn.resolve_left (by rw [hhold]; exact List.cons_ne_nil _ _))

/-- The choice of IDLE for the front held message. -/
theorem replySlot_forwards {s : State} {m : HeldMessage} {ms : List HeldMessage} (hidle : s.tx.mode = .idle)
    (hhold : s.ret.hold = m :: ms) (hturn : s.reports.queue = [] ∨ s.tx.turn ≠ .localNext) :
    replySlot s = forwardWord m ms false s := by
  rw [replySlot, hidle]
  dsimp only
  rw [chooseWord, hhold]
  cases hqueue : s.reports.queue with
  | nil => rfl
  | cons r q => exact if_neg (hturn.resolve_left (by rw [hqueue]; exact List.cons_ne_nil _ _))

/-- FORWARD while the front message holds words, or is not at its end. -/
theorem replySlot_forward {s : State} {m : HeldMessage} {ms : List HeldMessage} {esc : Bool}
    (hmode : s.tx.mode = .forward esc) (hhold : s.ret.hold = m :: ms)
    (hmore : (m.words.isEmpty && m.closed && !m.truncated) = false) : replySlot s = forwardWord m ms esc s := by
  rw [replySlot, hmode]
  dsimp only
  rw [forwardSlot, hhold]
  exact if_neg (by rw [hmore]; exact Bool.false_ne_true)

/-- A word that more words of its message follow. -/
theorem forwardWord_next (w v : Word) (ws : List Word) (closed cut : Bool) (rest : List HeldMessage) (esc : Bool)
    (s : State) :
    forwardWord ⟨w :: v :: ws, closed, cut⟩ rest esc s =
      (w, (s.withRet { s.ret with hold := ⟨v :: ws, closed, cut⟩ :: rest }).withTx
        ⟨.forward (!esc && decide (w = 0x1B1B#16)), .none⟩) := by
  have hbeq : (w == escWord) = decide (w = 0x1B1B#16) := rfl
  unfold forwardWord
  dsimp only
  rw [hbeq]
  cases !esc && decide (w = 0x1B1B#16) <;> rfl

/-- The last word of a message whose end was seen, no ESC that waits for its partner. -/
theorem forwardWord_last {w : Word} (hw : w ≠ escWord) (rest : List HeldMessage) (esc : Bool) (s : State) :
    forwardWord ⟨[w], true, false⟩ rest esc s =
      (w, (s.withRet { s.ret with hold := rest }).withTx ⟨.idle, .localNext⟩) := by
  have hbeq : (!esc && w == escWord) = false := by rw [beq_eq_false_iff_ne.mpr hw, Bool.and_false]
  unfold forwardWord
  dsimp only
  rw [hbeq]
  rfl

/-- A closed message whose last word is no ESC goes out word by word, and the turn passes to the own reports. -/
theorem replySlots_forwarding (w : Word) (ws : List Word) (hlast : (w :: ws).getLast? ≠ some escWord)
    (rest : List HeldMessage) (s : State) (esc : Bool)
    (h : replySlot s = forwardWord ⟨w :: ws, true, false⟩ rest esc s) :
    replySlots (w :: ws).length s =
      (w :: ws, (s.withRet { s.ret with hold := rest }).withTx ⟨.idle, .localNext⟩) := by
  induction ws generalizing w s esc with
  | nil =>
    have hw : w ≠ escWord := fun hw => hlast (congrArg some hw)
    rw [List.length_singleton, replySlots_succ, h, forwardWord_last hw]
    rfl
  | cons v ws ih =>
    have hlast' : (v :: ws).getLast? ≠ some escWord := by rwa [List.getLast?_cons_cons] at hlast
    rw [List.length_cons, replySlots_succ, h, forwardWord_next]
    dsimp only
    rw [ih v hlast' _ (!esc && decide (w = 0x1B1B#16)) (replySlot_forward rfl rfl rfl)]
    rfl

theorem wireMessage_last (header : Word) (p : List Word) : (wireMessage header p).getLast? ≠ some escWord := by
  have hlast : (wireMessage header p).getLast? = some eomWord := by
    rw [wireMessage, List.getLast?_append]
    rfl
  rw [hlast]
  decide

/-- Settles O29. -/
theorem reportGoesOutWholeOnTheReplySlot : Obligations.ReportGoesOutWholeOnTheReplySlot := by
  refine ⟨fun s r => ⟨fun hroom => offerReport_room r hroom, fun hfull => offerReport_full r hfull⟩, ?report, ?message,
    ?truncated, ?next, ?waits, fun s hidle hqueue hhold => ?nothing⟩
  case report =>
    intro s r q hidle hqueue hturn coded
    have hslot := replySlot_begins hidle hqueue hturn
    have hcoded : coded = escWord :: (codeReport s.pins.unit r).tail := rfl
    have hsending := replySlots_sending somWord ((codeReport s.pins.unit r).tail.tail)
      (setTx (.sending (codeReport s.pins.unit r).tail) .none (s.withReports { s.reports with queue := q })) rfl
    rw [hcoded, List.length_cons, replySlots_succ, hslot]
    change (escWord :: (replySlots (somWord :: (codeReport s.pins.unit r).tail.tail).length _).1,
      (replySlots (somWord :: (codeReport s.pins.unit r).tail.tail).length _).2) = _
    rw [beginLocal, hsending]
    rfl
  case message =>
    intro s header p rest hidle hturn held hhold
    exact replySlots_forwarding escWord held.tail (wireMessage_last header p) rest s false
      (replySlot_forwards hidle hhold hturn)
  case truncated =>
    intro s esc closed rest hmode hhold
    have hslot : replySlot s = (escWord, setTx .abandon .none (setHold rest s)) :=
      replySlot_forward hmode hhold (Bool.and_false _)
    rw [replySlots_succ, hslot]
    rfl
  case next =>
    intro s w v ws closed cut rest esc hmode hhold
    rw [replySlot_forward hmode hhold rfl, forwardWord_next]
  case waits =>
    intro s m rest esc hmode hhold hcut hwait
    obtain ⟨words, closed, cut⟩ := m
    obtain rfl : cut = false := hcut
    rcases hwait with ⟨hwords, hclosed⟩ | ⟨hwords, hesc⟩
    · obtain rfl : words = [] := hwords
      obtain rfl : closed = false := hclosed
      rw [replySlot_forward hmode hhold rfl]
      rfl
    · obtain rfl : words = [0x1B1B#16] := hwords
      rw [hesc] at hmode
      rw [replySlot_forward hmode hhold rfl]
      rfl
  case nothing =>
    rw [replySlot, hidle]
    dsimp only
    rw [chooseWord, hqueue, hhold]
    rfl

end Sys2Proof.Machine

/-! # Proofs: the message decoder (O36) -/

namespace Sys2Proof.Machine

set_option Elab.async false

/-! ## The decoder by its state -/

section States

variable {s : State} (w : Word)

theorem controlWord_outside (h : s.decoder.state = .outside) :
    controlWord w s = if s.decoder.esc then outsidePair w s else outsideWord w s := by
  rw [controlWord, h]

theorem controlWord_inMessage (h : s.decoder.state = .inMessage) :
    controlWord w s = if s.decoder.esc then messagePair w s else messageWord w s := by
  rw [controlWord, h]

theorem controlWord_discard (h : s.decoder.state = .discard) : controlWord w s = discardWord w s := by
  rw [controlWord, h]

end States

section Words

variable {s : State} {w : Word}

/-- The decoder with an ESC that waits for its partner. -/
def escaped (s : State) : State := s.withDecoder { s.decoder with esc := true }

/-- An ESC taken back where none waited. -/
theorem unescaped {s : State} (hesc : s.decoder.esc = false) :
    s.withDecoder { (escaped s).decoder with esc := false } = s := by
  change s.withDecoder { s.decoder with esc := false } = s
  rw [← hesc]
  rfl

/-- ESC that no ESC precedes waits for its partner in every state (R22 to R24). -/
theorem controlWord_esc (hesc : s.decoder.esc = false) :
    controlWord escWord s = escaped s := by
  have hplain {a b : State} : (if s.decoder.esc = true then a else b) = b := if_neg (by rw [hesc]; decide)
  cases h : s.decoder.state with
  | outside => exact (controlWord_outside _ h).trans hplain
  | inMessage => exact (controlWord_inMessage _ h).trans hplain
  | discard => exact (controlWord_discard _ h).trans hplain

/-! ### OUTSIDE -/

theorem outside_plain (h : s.decoder.state = .outside) (hesc : s.decoder.esc = false) (h0 : w ≠ 0) (he : w ≠ escWord) :
    controlWord w s = garble s :=
  (controlWord_outside w h).trans ((if_neg (by rw [hesc]; decide)).trans ((if_neg h0).trans (if_neg he)))

theorem outside_pair (h : s.decoder.state = .outside) (hesc : s.decoder.esc = true) :
    controlWord w s = outsidePair w s := (controlWord_outside w h).trans (if_pos hesc)

theorem outsidePair_other (h1 : w ≠ somWord) (h3 : w ≠ abtWord) :
    outsidePair w s = garble (s.withDecoder { s.decoder with esc := false }) := (if_neg h1).trans (if_neg h3)

/-! ### IN_MESSAGE -/

/-- A word that the message takes as data: a plain word, or the partner of an ESC that codes it (R20). -/
def IsData (w : Word) (s : State) : Prop :=
  s.decoder.esc = false ∧ w ≠ 0 ∧ w ≠ escWord ∨ s.decoder.esc = true ∧ (w = 0 ∨ w = escWord)

theorem message_data (h : s.decoder.state = .inMessage) (hdata : IsData w s) : controlWord w s = dataWord w s := by
  refine (controlWord_inMessage w h).trans ?_
  rcases hdata with ⟨hesc, h0, he⟩ | ⟨hesc, hw⟩
  · exact (if_neg (by rw [hesc]; decide)).trans ((if_neg h0).trans (if_neg he))
  · exact (if_pos hesc).trans (if_pos hw)

/-- The second word of a pair that codes no data word. -/
theorem message_pair (h : s.decoder.state = .inMessage) (hesc : s.decoder.esc = true) : controlWord w s = messagePair w s :=
  (controlWord_inMessage w h).trans (if_pos hesc)

theorem namesUnit_iff {own : BitVec 2} {unit : BitVec 3} :
    namesUnit own unit = true ↔ unit = own.setWidth 3 ∨ unit = 7#3 := by
  simp [namesUnit]

theorem dataWord_header (hnone : s.decoder.header = none) (hnames : namesUnit s.pins.unit (headerUnit w) = true) :
    dataWord w s = s.withDecoder { s.decoder with esc := false, header := some w } := by
  rw [dataWord, hnone]
  exact if_pos hnames

theorem dataWord_foreign (hnone : s.decoder.header = none) (hnames : ¬namesUnit s.pins.unit (headerUnit w) = true) :
    dataWord w s = decoderDiscard s := by
  rw [dataWord, hnone]
  exact if_neg hnames

theorem dataWord_payload {header : Word} (hsome : s.decoder.header = some header) (hroom : s.decoder.payload.length < 64) :
    dataWord w s = s.withDecoder { s.decoder with esc := false, payload := s.decoder.payload ++ [w] } := by
  rw [dataWord, hsome]
  exact if_pos hroom

theorem dataWord_long {header : Word} (hsome : s.decoder.header = some header) (hfull : 64 ≤ s.decoder.payload.length) :
    dataWord w s = decoderDiscard (reply (headOf header s.decoder.wordLost) (headerKind header) .length [] s) := by
  rw [dataWord, hsome]
  exact if_neg (Nat.not_lt.mpr hfull)

theorem messagePair_none (hnone : s.decoder.header = none) (hw : ¬(w = fillWord ∨ w = escWord)) :
    messagePair w s = if w = somWord then decoderStart s
      else if w = eomWord then decoderIdle (garble s)
      else if w = abtWord then decoderIdle s
      else decoderDiscard (garble s) := by
  rw [messagePair, hnone]
  exact if_neg hw

theorem messagePair_some {header : Word} (hsome : s.decoder.header = some header) (hw : ¬(w = fillWord ∨ w = escWord)) :
    messagePair w s = if w = somWord then decoderStart (refuseFraming header s)
      else if w = eomWord then
        completeMessage (headOf header s.decoder.wordLost) (headerKind header) s.decoder.payload s
      else if w = abtWord then decoderIdle s
      else decoderDiscard (refuseFraming header s) := by
  rw [messagePair, hsome]
  exact if_neg hw

/-! ### DISCARD -/

theorem discard_plain (h : s.decoder.state = .discard) (hesc : s.decoder.esc = false) (he : w ≠ escWord) :
    controlWord w s = s :=
  (controlWord_discard w h).trans ((if_neg (by rw [hesc]; decide)).trans (if_neg he))

theorem discard_som (h : s.decoder.state = .discard) (hesc : s.decoder.esc = true) (hw : w = somWord) :
    controlWord w s = decoderStart s := (controlWord_discard w h).trans ((if_pos hesc).trans (if_pos hw))

theorem discard_pair (h : s.decoder.state = .discard) (hesc : s.decoder.esc = true) (hw : w ≠ somWord) :
    controlWord w s = s.withDecoder { s.decoder with esc := false } :=
  (controlWord_discard w h).trans ((if_pos hesc).trans (if_neg hw))

end Words

/-! ## Refusals (R23) -/

theorem offerReport_withDecoder (r : Report) (d : Decoder) (s : State) :
    offerReport r (s.withDecoder d) = (offerReport r s).withDecoder d := by
  by_cases h : s.reports.queue.length < 16
  · rw [offerReport_room r h, offerReport_room (s := s.withDecoder d) r h]; rfl
  · rw [offerReport_full r (Nat.le_of_not_lt h), offerReport_full (s := s.withDecoder d) r (Nat.le_of_not_lt h)]; rfl

theorem offerReport_decoder (r : Report) (s : State) : (offerReport r s).decoder = s.decoder := by
  rcases offerReport_cases r s with ⟨-, h⟩ | ⟨-, h⟩ <;> rw [h] <;> rfl

/-- A refusal is always answered (R29). -/
theorem reply_refused {r : Result} (hr : r ≠ .accepted) (h : MsgHead) (kind : BitVec 6) (s : State) :
    reply h kind r [] s = offerReport ⟨0x3F#6, h.tag, [word kind.toNat, word (resultCode r)]⟩ s := by
  refine if_pos ?_
  rw [replyDue, bne_iff_ne.mpr hr, Bool.or_true, Bool.true_or]

theorem reply_withDecoder (h : MsgHead) (kind : BitVec 6) (r : Result) (data : List Word) (d : Decoder) (s : State) :
    reply h kind r data (s.withDecoder d) = (reply h kind r data s).withDecoder d := by
  unfold reply
  split
  · exact offerReport_withDecoder _ _ _
  · rfl

theorem refuseFraming_eq (header : Word) (s : State) : refuseFraming header s =
    offerReport ⟨0x3F#6, header.extractLsb' 3 4,
      [word (header.extractLsb' 7 6).toNat, if s.decoder.wordLost = true then 9 else 11]⟩ s := by
  unfold refuseFraming
  cases s.decoder.wordLost <;> exact reply_refused (by decide) _ _ _

/-- A message that lost a word is refused at its EOM (R25, R26). -/
theorem completeMessage_wordLost {h : MsgHead} (hlost : h.wordLost = true) (code : BitVec 6) (p : List Word) (s : State) :
    completeMessage h code p s = (offerReport ⟨0x3F#6, h.tag, [word code.toNat, 9]⟩ s).withDecoder
      (Decoder.idle s.decoder.garbled) := by
  have hv : judgeMessage h code p (decoderIdle s) = refuse .wordLost (decoderIdle s) := if_pos hlost
  rw [completeMessage, hv]
  refine (reply_refused (r := .wordLost) (by decide) h code (decoderIdle s)).trans ?_
  exact offerReport_withDecoder _ _ _

/-- The refusal of a 65th payload word does not depend on the message so far. -/
theorem refusedLong_withDecoder (header : Word) {s : State} (d : Decoder) (hg : d.garbled = s.decoder.garbled)
    {lost : Bool} :
    decoderDiscard (reply (headOf header lost) (headerKind header) .length [] (s.withDecoder d)) =
      decoderDiscard (reply (headOf header lost) (headerKind header) .length [] s) := by
  unfold decoderDiscard
  rw [reply_withDecoder, reply_refused (by decide), offerReport_decoder]
  change (offerReport _ s).withDecoder { Decoder.idle d.garbled with state := .discard } = _
  rw [hg]

/-! ## Whole messages -/

/-- The words of the control slot, one by one. -/
def controlWords (ws : List Word) (s : State) : State := ws.foldl (fun t w => controlWord w t) s

theorem controlWords_append (a b : List Word) (s : State) :
    controlWords (a ++ b) s = controlWords b (controlWords a s) := List.foldl_append

/-- The coded form of a word: itself, or after an ESC (R20). -/
theorem codeWord_cases (w : Word) :
    (w = 0 ∨ w = escWord) ∧ codeWord w = [escWord, w] ∨ (w ≠ 0 ∧ w ≠ escWord) ∧ codeWord w = [w] := by
  by_cases h : w = fillWord ∨ w = escWord
  · exact .inl ⟨h, if_pos h⟩
  · exact .inr ⟨not_or.mp h, if_neg h⟩

/-- An ESC pair from a state that waits for no partner. -/
theorem controlWords_pair (w : Word) {s : State} (hesc : s.decoder.esc = false) :
    controlWords [escWord, w] s = controlWord w (escaped s) :=
  congrArg (controlWord w) (controlWord_esc hesc)

/-- A data word does not depend on the ESC before it, but for the word it is. -/
theorem dataWord_escaped (w : Word) (s : State) : dataWord w (escaped s) = dataWord w s := by
  cases hh : s.decoder.header with
  | none =>
    by_cases hn : namesUnit s.pins.unit (headerUnit w) = true
    · rw [dataWord_header hh hn, dataWord_header (s := escaped s) hh hn]; rfl
    · rw [dataWord_foreign hh hn, dataWord_foreign (s := escaped s) hh hn]; rfl
  | some h =>
    by_cases hroom : s.decoder.payload.length < 64
    · rw [dataWord_payload hh hroom, dataWord_payload (s := escaped s) hh hroom]; rfl
    · rw [dataWord_long hh (Nat.le_of_not_lt hroom), dataWord_long (s := escaped s) hh (Nat.le_of_not_lt hroom)]
      exact refusedLong_withDecoder (s := s) h (escaped s).decoder rfl

theorem codeWord_message (w : Word) {s : State} (h : s.decoder.state = .inMessage) (hesc : s.decoder.esc = false) :
    controlWords (codeWord w) s = dataWord w s := by
  rcases codeWord_cases w with ⟨hw, hcode⟩ | ⟨hw, hcode⟩ <;> rw [hcode]
  · rw [controlWords_pair w hesc, message_data (s := escaped s) h (.inr ⟨rfl, hw⟩), dataWord_escaped]
  · exact message_data h (.inl ⟨hesc, hw⟩)

/-- The rest of a message in DISCARD leaves the decoder as it is (R24). -/
theorem codeWords_discard (p : List Word) {s : State} (h : s.decoder.state = .discard) (hesc : s.decoder.esc = false) :
    controlWords (p.flatMap codeWord ++ [escWord, eomWord]) s = s := by
  have hpair {w : Word} (hw : w ≠ somWord) : controlWords [escWord, w] s = s := by
    rw [controlWords_pair w hesc, discard_pair (s := escaped s) h rfl hw]
    exact unescaped hesc
  induction p with
  | nil => exact hpair (by decide)
  | cons w p ih =>
    rw [List.flatMap_cons, List.append_assoc, controlWords_append]
    have hword : controlWords (codeWord w) s = s := by
      rcases codeWord_cases w with ⟨hw, hcode⟩ | ⟨hw, hcode⟩ <;> rw [hcode]
      · exact hpair (by rcases hw with rfl | rfl <;> decide)
      · exact discard_plain h hesc hw.2
    rw [hword, ih]

/-- A message in progress: its header and the payload words taken so far. -/
def inProgress (header : Word) (q : List Word) (s : State) : State :=
  s.withDecoder ⟨.inMessage, false, some header, q, false, s.decoder.garbled⟩

/-- A message in progress for this unit to its end: its 65th payload word refuses it, and its EOM judges it (R23). -/
theorem controlWords_inProgress (header : Word) (p q : List Word) (hq : q.length ≤ 64) (s : State) :
    controlWords (p.flatMap codeWord ++ [escWord, eomWord]) (inProgress header q s) =
      if 64 < (q ++ p).length then decoderDiscard (reply (headOf header false) (headerKind header) .length [] s)
      else completeMessage (headOf header false) (headerKind header) (q ++ p) s := by
  induction p generalizing q with
  | nil =>
    rw [List.append_nil, if_neg (Nat.not_lt.mpr hq)]
    refine (controlWords_pair eomWord rfl).trans ((message_pair rfl rfl).trans ?_)
    exact messagePair_some rfl (by decide)
  | cons w p ih =>
    rw [List.flatMap_cons, List.append_assoc, controlWords_append, codeWord_message w rfl rfl]
    by_cases hroom : q.length < 64
    · rw [dataWord_payload rfl hroom]
      have hnext := ih (q ++ [w]) (by rw [List.length_append]; exact hroom)
      rw [List.append_assoc] at hnext
      exact hnext
    · have hlong : 64 < (q ++ w :: p).length := by rw [List.length_append, List.length_cons]; omega
      rw [dataWord_long rfl (Nat.le_of_not_lt hroom), codeWords_discard p rfl rfl, if_pos hlong]
      exact refusedLong_withDecoder (s := s) header (inProgress header q s).decoder rfl

/-- A message word by word is the message taken whole (R20, R21, R23). -/
theorem controlWords_wireMessage (header : Word) (p : List Word) {s : State} (h : s.decoder.state = .outside)
    (hesc : s.decoder.esc = false) :
    controlWords (wireMessage header p) s = receive (headOf header false) (headerKind header) p s := by
  have hstart : controlWords [escWord, somWord] s = decoderStart s := by
    rw [controlWords_pair somWord hesc, outside_pair (s := escaped s) h rfl]; rfl
  rw [wireMessage, List.append_assoc, controlWords_append, hstart, List.flatMap_cons, List.append_assoc,
    controlWords_append, codeWord_message header rfl rfl]
  unfold receive
  by_cases hnames : namesUnit s.pins.unit (headerUnit header) = true
  · have hours : ¬(!namesUnit s.pins.unit (headOf header false).unit) = true := by
      rw [show (headOf header false).unit = headerUnit header from rfl, hnames]
      decide
    rw [dataWord_header (s := decoderStart s) rfl hnames, if_neg hours]
    exact controlWords_inProgress header p [] (Nat.zero_le _) s
  · rw [dataWord_foreign (s := decoderStart s) rfl hnames, codeWords_discard p rfl rfl,
      if_pos (by rw [show (headOf header false).unit = headerUnit header from rfl, Bool.eq_false_iff.mpr hnames]; rfl)]
    rfl

/-- A coded word that no message holds is garbled once (R22). -/
theorem codeWord_outside (w : Word) {s : State} (h : s.decoder.state = .outside) (hesc : s.decoder.esc = false) :
    controlWords (codeWord w) s = garble s := by
  rcases codeWord_cases w with ⟨hw, hcode⟩ | ⟨hw, hcode⟩ <;> rw [hcode]
  · rw [controlWords_pair w hesc, outside_pair (s := escaped s) h rfl,
      outsidePair_other (by rcases hw with rfl | rfl <;> decide) (by rcases hw with rfl | rfl <;> decide)]
    exact congrArg garble (unescaped hesc)
  · exact outside_plain h hesc hw.1 hw.2

theorem garble_eq (s : State) : garble s = { s with
    decoder := { s.decoder with garbled := satInc 65535 s.decoder.garbled }
    notices := { s.notices with causes := s.notices.causes ||| 0x010#12 } } := rfl

/-- A message without its SOM: each word and the EOM pair are garbled. -/
theorem controlWords_garbled (p : List Word) {s : State} (h : s.decoder.state = .outside) (hesc : s.decoder.esc = false) :
    controlWords (p.flatMap codeWord ++ [escWord, eomWord]) s = { s with
      decoder := { s.decoder with garbled := min 65535 (s.decoder.garbled + p.length + 1) }
      notices := { s.notices with causes := s.notices.causes ||| 0x010#12 } } := by
  induction p generalizing s with
  | nil =>
    have hpair : controlWords [escWord, eomWord] s = garble s := by
      rw [controlWords_pair eomWord hesc, outside_pair (s := escaped s) h rfl, outsidePair_other (by decide) (by decide)]
      exact congrArg garble (unescaped hesc)
    rw [List.flatMap_nil, List.nil_append, hpair, garble_eq, satInc_eq_min]
    rfl
  | cons w p ih =>
    have hcount : min 65535 ((garble s).decoder.garbled + p.length + 1) =
        min 65535 (s.decoder.garbled + (w :: p).length + 1) := by
      rw [garble_eq, List.length_cons]
      dsimp only
      rw [satInc_eq_min]
      omega
    have hcause : (garble s).notices.causes ||| 0x010#12 = s.notices.causes ||| 0x010#12 := by
      rw [garble_eq]
      exact (BitVec.or_assoc _ _ _).trans (congrArg (s.notices.causes ||| ·) BitVec.or_self)
    rw [List.flatMap_cons, List.append_assoc, controlWords_append, codeWord_outside w h hesc,
      ih (s := garble s) h hesc, hcount, hcause]
    rfl

/-! ## The table of the decoder -/

/-- Settles O36. -/
theorem controlSlotBringsWholeMessages : Obligations.ControlSlotBringsWholeMessages := by
  refine ⟨fun header p s h hesc => controlWords_wireMessage header p h hesc,
    fun p s h hesc _ => controlWords_garbled p h hesc, fun w s => ?table⟩
  intro d fresh goes garbles refuses broken names data
  have plain {header : Word} (r : Result) (hr : r ≠ .accepted) : decoderDiscard (reply (headOf header d.wordLost)
      (headerKind header) r [] s) = (offerReport ⟨0x3F#6, header.extractLsb' 3 4,
        [word (header.extractLsb' 7 6).toNat, word (resultCode r)]⟩ s).withDecoder (fresh .discard) := by
    unfold decoderDiscard
    rw [reply_refused hr, offerReport_decoder]
    rfl
  have hframing (header : Word) : (refuseFraming header s).decoder = d := by
    rw [refuseFraming_eq, offerReport_decoder]
  have notCode (hesc : d.esc = true) (hdata : ¬data) : ¬(w = fillWord ∨ w = escWord) := fun h => hdata (.inr ⟨hesc, h⟩)
  have namesIff (unit : BitVec 3) : namesUnit s.pins.unit unit = true ↔ names unit := namesUnit_iff
  refine ⟨fun hesc hw => ?fill, fun hesc hw => ?esc, fun h hesc h0 he => outside_plain h hesc h0 he,
    fun h hesc => ⟨fun hw => ?outSom, fun hw => ?outAbt, fun h1 h3 => ?outPair⟩,
    fun h hdata => ⟨fun hnone hn => ?own, fun hnone hn => ?foreign, fun hsome hroom => ?payload,
      fun header hsome hfull => ?long⟩,
    fun h hesc hnone => ⟨fun hw => ?noneSom, fun hw => ?noneEom, fun hw => ?noneAbt, fun hdata h1 h2 h3 => ?nonePair⟩,
    fun header h hesc hsome => ⟨fun hw => ?som, fun hw hlost => ?eomLost, fun hw hlost hn hfits => ?eom, fun hw => ?abt,
      fun hdata h1 h2 h3 => ?pair⟩,
    fun h hesc he => discard_plain h hesc he,
    fun h hesc => ⟨fun hw => discard_som h hesc hw, fun hw => discard_pair h hesc hw⟩⟩
  case fill => subst hw; exact controlWord_fill hesc
  case esc => subst hw; exact controlWord_esc hesc
  case outSom => exact (outside_pair h hesc).trans (if_pos hw)
  case outAbt => exact (outside_pair h hesc).trans ((if_neg (by rw [hw]; decide)).trans (if_pos hw))
  case outPair => exact (outside_pair h hesc).trans (outsidePair_other h1 h3)
  case own => exact (message_data h hdata).trans (dataWord_header hnone ((namesIff _).mpr hn))
  case foreign => exact (message_data h hdata).trans (dataWord_foreign hnone (fun hu => hn ((namesIff _).mp hu)))
  case payload =>
    obtain ⟨header, hsome⟩ := Option.ne_none_iff_exists'.mp hsome
    exact (message_data h hdata).trans (dataWord_payload hsome hroom)
  case long => exact ((message_data h hdata).trans (dataWord_long hsome hfull)).trans (plain .length (by decide))
  case noneSom =>
    exact ((message_pair h hesc).trans (messagePair_none hnone (by rw [hw]; decide))).trans (if_pos hw)
  case noneEom =>
    exact ((message_pair h hesc).trans (messagePair_none hnone (by rw [hw]; decide))).trans
      ((if_neg (by rw [hw]; decide)).trans (if_pos hw))
  case noneAbt =>
    exact ((message_pair h hesc).trans (messagePair_none hnone (by rw [hw]; decide))).trans
      ((if_neg (by rw [hw]; decide)).trans ((if_neg (by rw [hw]; decide)).trans (if_pos hw)))
  case nonePair =>
    exact ((message_pair h hesc).trans (messagePair_none hnone (notCode hesc hdata))).trans
      ((if_neg h1).trans ((if_neg h2).trans (if_neg h3)))
  case som =>
    refine (((message_pair h hesc).trans (messagePair_some hsome (by rw [hw]; decide))).trans (if_pos hw)).trans ?_
    rw [decoderStart, hframing, refuseFraming_eq]
    rfl
  case eomLost =>
    refine (((message_pair h hesc).trans (messagePair_some hsome (by rw [hw]; decide))).trans
      ((if_neg (by rw [hw]; decide)).trans (if_pos hw))).trans ?_
    exact completeMessage_wordLost hlost _ _ s
  case eom =>
    refine (((message_pair h hesc).trans (messagePair_some hsome (by rw [hw]; decide))).trans
      ((if_neg (by rw [hw]; decide)).trans (if_pos hw))).trans ?_
    rw [hlost]
    unfold receive
    have hunit : namesUnit s.pins.unit (headOf header false).unit = true := (namesIff _).mpr hn
    rw [hunit]
    exact (if_neg (Nat.not_lt.mpr hfits)).symm
  case abt =>
    exact ((message_pair h hesc).trans (messagePair_some hsome (by rw [hw]; decide))).trans
      ((if_neg (by rw [hw]; decide)).trans ((if_neg (by rw [hw]; decide)).trans (if_pos hw)))
  case pair =>
    refine (((message_pair h hesc).trans (messagePair_some hsome (notCode hesc hdata))).trans
      ((if_neg h1).trans ((if_neg h2).trans (if_neg h3)))).trans ?_
    rw [decoderDiscard, hframing, refuseFraming_eq]
    rfl

end Sys2Proof.Machine

/-! # Proofs: the checks of every kind (O37, O38) -/

namespace Sys2Proof.Machine

set_option Elab.async false

/-! ## Judging as checks and an end -/

/-- Checks in order, and a verdict when all pass: the form every kind has (R26). -/
def conclude (checks : List (Bool × Result)) (s : State) (v : Verdict) : Verdict :=
  match firstFailure checks with
  | some r => refuse r s
  | none => v

theorem conclude_pass {cs : List (Bool × Result)} (h : firstFailure cs = none) (s : State) (v : Verdict) :
    conclude cs s v = v := by rw [conclude, h]

theorem conclude_fail {cs : List (Bool × Result)} {r : Result} (h : firstFailure cs = some r) (s : State) (v : Verdict) :
    conclude cs s v = refuse r s := by rw [conclude, h]

theorem conclude_congr {cs ds : List (Bool × Result)} (h : firstFailure cs = firstFailure ds) (s : State) (v : Verdict) :
    conclude cs s v = conclude ds s v := by rw [conclude, conclude, h]

/-! ## What a kind's checks have in common -/

/-- A refusal that leaves everything but the reports and the notices. -/
def RefusalWritesNothing (s : State) (v : Verdict) : Prop :=
  v.result ≠ .accepted → v.data = [] ∧ v.state = { s with reports := v.state.reports, notices := v.state.notices }

theorem accepted_writesNothing {s : State} {v : Verdict} (h : v.result = .accepted) : RefusalWritesNothing s v :=
  fun hne => absurd h hne

theorem refuse_writesNothing (r : Result) (s : State) : RefusalWritesNothing s (refuse r s) := fun _ => ⟨rfl, rfl⟩

theorem conclude_writesNothing {s : State} {v : Verdict} (cs : List (Bool × Result)) (h : RefusalWritesNothing s v) :
    RefusalWritesNothing s (conclude cs s v) := by
  unfold conclude
  split
  · exact refuse_writesNothing _ s
  · exact h

/-- Checks that pass whatever the stricter ones pass (R27). -/
def Relaxes (lenient strict : List (Bool × Result)) : Prop := firstFailure strict = none → firstFailure lenient = none

theorem Relaxes.same (cs : List (Bool × Result)) : Relaxes cs cs := id

theorem Relaxes.reserved (b : Bool) (cs : List (Bool × Result)) :
    Relaxes (reservedCheck false b :: cs) (reservedCheck true b :: cs) := by
  cases b
  · exact id
  · exact fun h => nomatch h

theorem firstFailure_append_none (cs ds : List (Bool × Result)) :
    firstFailure (cs ++ ds) = none ↔ firstFailure cs = none ∧ firstFailure ds = none := by
  simp only [firstFailure_none_iff, List.mem_append, or_imp, forall_and]

theorem Relaxes.append {as bs cs ds : List (Bool × Result)} (h : Relaxes as bs) (h' : Relaxes cs ds) :
    Relaxes (as ++ cs) (bs ++ ds) := fun hs =>
  have hs := (firstFailure_append_none _ _).mp hs
  (firstFailure_append_none _ _).mpr ⟨h hs.1, h' hs.2⟩

theorem Relaxes.length (required : Nat) (p : List Word) :
    Relaxes (lengthChecks false required p) (lengthChecks true required p) := by
  simp +contextual [Relaxes, lengthChecks, firstFailure_none_iff]

theorem Relaxes.count (at_ top required : Nat) (p : List Word) :
    Relaxes (countChecks false at_ top required p) (countChecks true at_ top required p) :=
  (Relaxes.same [(decide (p.length < at_), Result.length), (decide (top < argN p at_), Result.range)]).append
    (Relaxes.length required p)

/-- Under LENIENT a payload long enough passes its length checks. -/
theorem firstFailure_long {required : Nat} {p : List Word} (h : required ≤ p.length) (cs : List (Bool × Result)) :
    firstFailure (lengthChecks false required p ++ cs) = firstFailure cs := by
  have hshort : decide (p.length < required) = false := decide_eq_false (Nat.not_lt.mpr h)
  rw [lengthChecks, hshort]
  rfl

theorem firstFailure_short {required : Nat} {p : List Word} (h : p.length < required) (strict : Bool)
    (cs : List (Bool × Result)) : firstFailure (lengthChecks strict required p ++ cs) = some .length := by
  rw [lengthChecks, decide_eq_true h]
  rfl

/-- A function of a payload that reads no word beyond the first `n`. -/
def ReadsFirst {α : Type} (n : Nat) (f : List Word → α) : Prop := ∀ ws extra, ws.length = n → f (ws ++ extra) = f ws

theorem ReadsFirst.append {α : Type} {n : Nat} {f : List Word → α} (h : ReadsFirst n f) {p : List Word} (hp : n ≤ p.length)
    (extra : List Word) : f (p ++ extra) = f p := by
  have hlen : (p.take n).length = n := List.length_take_of_le hp
  have hsplit := (h (p.take n) (p.drop n ++ extra) hlen).trans (h (p.take n) (p.drop n) hlen).symm
  rwa [← List.append_assoc, List.take_append_drop] at hsplit

/-- Every check has a code of refusal. -/
def CodesRefuse (cs : List (Bool × Result)) : Prop := ∀ c ∈ cs, c.2 ≠ .accepted

theorem CodesRefuse.firstFailure {cs : List (Bool × Result)} (h : CodesRefuse cs) : firstFailure cs ≠ some .accepted := by
  induction cs with
  | nil => decide
  | cons c cs ih =>
    obtain ⟨b, r⟩ := c
    cases b
    · exact ih fun c hc => h c (List.mem_cons_of_mem _ hc)
    · exact fun hr => h _ List.mem_cons_self (Option.some.inj hr)

theorem CodesRefuse.append {cs ds : List (Bool × Result)} (h : CodesRefuse cs) (h' : CodesRefuse ds) :
    CodesRefuse (cs ++ ds) := fun c hc => (List.mem_append.mp hc).elim (h c) (h' c)

theorem CodesRefuse.length (strict : Bool) (required : Nat) (p : List Word) :
    CodesRefuse (lengthChecks strict required p) := by simp [CodesRefuse, lengthChecks]

theorem CodesRefuse.count (strict : Bool) (at_ top required : Nat) (p : List Word) :
    CodesRefuse (countChecks strict at_ top required p) := by simp [CodesRefuse, countChecks, lengthChecks]

/-- A kind's judging: the checks of its length, fixed or counted, those that follow, and what it comes to when all pass;
LENIENT's checks pass where STRICT's do, and what follows the length checks reads no word beyond the required. -/
inductive ByChecks (s : State) : (Bool → List Word → Verdict) → Prop
  | fixed (n : Nat) (rest : Bool → List Word → List (Bool × Result)) (last : List Word → Verdict)
      (relaxes : ∀ p, Relaxes (rest false p) (rest true p))
      (reads : ReadsFirst n fun p => (rest false p, last p))
      (keeps : ∀ p, RefusalWritesNothing s (last p))
      (codes : ∀ p, CodesRefuse (rest true p) := by simp [CodesRefuse, reservedCheck]) :
      ByChecks s fun strict p => conclude (lengthChecks strict n p ++ rest strict p) s (last p)
  | counted (at_ top : Nat) (required : Nat → Nat) (rest : Bool → List Word → List (Bool × Result))
      (last : List Word → Verdict) (hat : 0 < at_)
      (relaxes : ∀ p, Relaxes (rest false p) (rest true p))
      (reads : ∀ p extra, at_ ≤ p.length → required (argN p at_) ≤ p.length →
        (rest false (p ++ extra), last (p ++ extra)) = (rest false p, last p))
      (keeps : ∀ p, RefusalWritesNothing s (last p))
      (codes : ∀ p, CodesRefuse (rest true p) := by simp [CodesRefuse, reservedCheck]) :
      ByChecks s fun strict p =>
        conclude (countChecks strict at_ top (required (argN p at_)) p ++ rest strict p) s (last p)

theorem arg_append {p : List Word} {k : Nat} (hk : 0 < k) (hp : k ≤ p.length) (extra : List Word) :
    arg (p ++ extra) k = arg p k := List.getD_append _ _ _ _ (by omega)

/-- What passes strict checks passes the laxer ones, to the same end. -/
theorem conclude_relaxes {lenient strict : List (Bool × Result)} (hr : Relaxes lenient strict) (hc : CodesRefuse strict)
    {s : State} {v : Verdict} (h : (conclude strict s v).result = .accepted) :
    conclude lenient s v = conclude strict s v := by
  cases hf : firstFailure strict with
  | none => rw [conclude_pass hf, conclude_pass (hr hf)]
  | some r =>
    rw [conclude_fail hf] at h
    exact absurd (hf.trans (congrArg some h)) hc.firstFailure

/-- The length checks of a counted payload under LENIENT. -/
theorem firstFailure_count {at_ top required : Nat} {p : List Word} (hat : at_ ≤ p.length) (cs : List (Bool × Result)) :
    firstFailure (countChecks false at_ top required p ++ cs) =
      if top < argN p at_ then some .range else if p.length < required then some .length else firstFailure cs := by
  have hheld : decide (p.length < at_) = false := decide_eq_false (Nat.not_lt.mpr hat)
  rw [countChecks, hheld]
  by_cases htop : top < argN p at_
  · rw [if_pos htop, decide_eq_true htop]; rfl
  rw [if_neg htop, decide_eq_false htop]
  by_cases hlen : p.length < required
  · rw [if_pos hlen]; exact firstFailure_short hlen false cs
  · rw [if_neg hlen]; exact firstFailure_long (Nat.le_of_not_lt hlen) cs

namespace ByChecks

variable {s : State} {j : Bool → List Word → Verdict}

theorem refused (h : ByChecks s j) (strict : Bool) (p : List Word) : RefusalWritesNothing s (j strict p) := by
  cases h with
  | fixed n rest last relaxes reads keeps codes => exact conclude_writesNothing _ (keeps p)
  | counted at_ top required rest last hat relaxes reads keeps codes => exact conclude_writesNothing _ (keeps p)

theorem relaxed (h : ByChecks s j) {p : List Word} (hacc : (j true p).result = .accepted) : j false p = j true p := by
  cases h with
  | fixed n rest last relaxes reads keeps codes =>
    exact conclude_relaxes ((Relaxes.length n p).append (relaxes p)) ((CodesRefuse.length _ _ _).append (codes p)) hacc
  | counted at_ top required rest last hat relaxes reads keeps codes =>
    exact conclude_relaxes ((Relaxes.count _ _ _ p).append (relaxes p))
      ((CodesRefuse.count _ _ _ _ _).append (codes p)) hacc

theorem ignores (h : ByChecks s j) {p : List Word} (extra : List Word) (hlen : (j false p).result ≠ .length) :
    j false (p ++ extra) = j false p := by
  have hmore : p.length ≤ (p ++ extra).length := by rw [List.length_append]; exact Nat.le_add_right _ _
  cases h with
  | fixed n rest last relaxes reads keeps codes =>
    have hp : n ≤ p.length := Nat.le_of_not_lt fun hshort =>
      hlen (congrArg Verdict.result (conclude_fail (firstFailure_short hshort false _) s (last p)))
    obtain ⟨hrest, hlast⟩ := Prod.mk.inj (reads.append hp extra)
    dsimp only
    rw [conclude_congr (firstFailure_long hp _), conclude_congr (firstFailure_long (hp.trans hmore) _), hrest, hlast]
  | counted at_ top required rest last hat relaxes reads keeps codes =>
    have hp : at_ ≤ p.length := Nat.le_of_not_lt fun hshort => by
      refine hlen (congrArg Verdict.result (conclude_fail ?_ s (last p)))
      rw [countChecks, decide_eq_true hshort]
      rfl
    have hcount : argN (p ++ extra) at_ = argN p at_ := congrArg BitVec.toNat (arg_append hat hp extra)
    have hff := firstFailure_count (top := top) (required := required (argN p at_)) hp (rest false p)
    have hff' := firstFailure_count (top := top) (required := required (argN p at_)) (hp.trans hmore)
      (rest false (p ++ extra))
    rw [hcount] at hff'
    dsimp only
    rw [hcount]
    by_cases htop : top < argN p at_
    · rw [if_pos htop] at hff hff'
      rw [conclude_fail hff, conclude_fail hff']
    rw [if_neg htop] at hff hff'
    by_cases hshort : p.length < required (argN p at_)
    · rw [if_pos hshort] at hff
      exact absurd (congrArg Verdict.result (conclude_fail hff s (last p))) hlen
    have hp' := Nat.le_of_not_lt hshort
    rw [if_neg hshort] at hff
    rw [if_neg (Nat.not_lt.mpr (hp'.trans hmore))] at hff'
    obtain ⟨hrest, hlast⟩ := Prod.mk.inj (reads p extra hp hp')
    rw [conclude_congr hff, conclude_congr hff', hrest, hlast]

end ByChecks

/-! ## Every kind has this form -/

theorem clipStartOutcome_writesNothing (ticket : Nat) (s : State) : RefusalWritesNothing s (clipStartOutcome ticket s) := by
  have hstale : RefusalWritesNothing s (refuse .state (offerReport (abortReport ticket .stale) s)) := fun _ => by
    rcases offerReport_cases (abortReport ticket .stale) s with ⟨-, h⟩ | ⟨-, h⟩ <;> rw [h] <;> exact ⟨rfl, rfl⟩
  unfold clipStartOutcome
  split
  · exact hstale
  split
  · split
    · split
      · exact refuse_writesNothing _ s
      · exact accepted_writesNothing rfl
    · exact refuse_writesNothing _ s
    · exact hstale
    · exact hstale
  · exact hstale

section Forms

variable {s : State}

/-- A message of a fixed length, applied when its checks pass. -/
theorem byChecks_judged (n : Nat) (rest : Bool → List Word → List (Bool × Result)) (applied : List Word → State)
    (relaxes : ∀ p, Relaxes (rest false p) (rest true p)) (reads : ReadsFirst n fun p => (rest false p, applied p))
    (codes : ∀ p, CodesRefuse (rest true p) := by simp [CodesRefuse, reservedCheck]) :
    ByChecks s fun strict p => judged (lengthChecks strict n p ++ rest strict p) s (applied p) :=
  .fixed n rest (fun p => ⟨.accepted, [], applied p⟩) relaxes
    (fun ws extra h => congrArg (Prod.map id (Verdict.mk .accepted [])) (reads ws extra h))
    (fun _ => accepted_writesNothing rfl) codes

/-- A read of a fixed length, answered when its checks pass. -/
theorem byChecks_answered (n : Nat) (rest : Bool → List Word → List (Bool × Result)) (data : List Word → List Word)
    (relaxes : ∀ p, Relaxes (rest false p) (rest true p)) (reads : ReadsFirst n fun p => (rest false p, data p))
    (codes : ∀ p, CodesRefuse (rest true p) := by simp [CodesRefuse, reservedCheck]) :
    ByChecks s fun strict p => answered (lengthChecks strict n p ++ rest strict p) s (data p) :=
  .fixed n rest (fun p => ⟨.accepted, data p, s⟩) relaxes
    (fun ws extra h => congrArg (Prod.map id (Verdict.mk .accepted · s)) (reads ws extra h))
    (fun _ => accepted_writesNothing rfl) codes

/-- A message without payload. -/
theorem byChecks_nil (v : Verdict) (hv : v.result = .accepted) :
    ByChecks s fun strict p => conclude (lengthChecks strict 0 p) s v := by
  have h := ByChecks.fixed (s := s) 0 (fun _ _ => []) (fun _ => v) (fun _ => .same _) (fun _ _ _ => rfl)
    (fun _ => accepted_writesNothing hv)
  simpa only [List.append_nil] using h

end Forms

theorem carouselTags_append {p : List Word} (hp : 1 + argN p 1 ≤ p.length) (extra : List Word) :
    carouselTags (p ++ extra) = carouselTags p := by
  have hcount : argN (p ++ extra) 1 = argN p 1 := congrArg BitVec.toNat (arg_append (by decide) (by omega) extra)
  unfold carouselTags
  rw [hcount, List.drop_append_of_le_length (by omega), List.take_append_of_le_length (by rw [List.length_drop]; omega)]

/-- A run of entries worked out from the words of each, in a payload that holds them all. -/
theorem map_entries_append {α : Type} (m : Nat) {p : List Word} (hp : 2 + m * argN p 2 ≤ p.length) (extra : List Word)
    (f : (Nat → Word) → α) (hf : ∀ g h, (∀ i < m, g i = h i) → f g = f h) :
    (List.range (argN (p ++ extra) 2)).map (fun k => f fun i => arg (p ++ extra) (m * k + (i + 3))) =
      (List.range (argN p 2)).map fun k => f fun i => arg p (m * k + (i + 3)) := by
  have hcount : argN (p ++ extra) 2 = argN p 2 := congrArg BitVec.toNat (arg_append (by decide) (by omega) extra)
  rw [hcount]
  refine List.map_congr_left fun k hk => hf _ _ fun i hi => arg_append (by omega) ?_ extra
  have hk' : m * (k + 1) ≤ m * argN p 2 := Nat.mul_le_mul_left m (List.mem_range.mp hk)
  rw [Nat.mul_add] at hk'
  omega

section Counted

variable {p : List Word} (extra : List Word)

theorem argN_append {k : Nat} (hk : 0 < k) (hp : k ≤ p.length) : argN (p ++ extra) k = argN p k :=
  congrArg BitVec.toNat (arg_append hk hp extra)

theorem notesOf_append (hp : 2 + 3 * argN p 2 ≤ p.length) : notesOf (p ++ extra) = notesOf p :=
  map_entries_append 3 hp extra (fun g => Note.mk (g 0).toNat (g 1).toNat (g 2).toNat) fun g h hgh => by
    rw [hgh 0 (by decide), hgh 1 (by decide), hgh 2 (by decide)]

theorem itemsOf_append (hp : 2 + 3 * argN p 2 ≤ p.length) : itemsOf (p ++ extra) = itemsOf p :=
  map_entries_append 3 hp extra (fun g => SceneItem.mk (rangeOf (g 0)) (g 1).toNat (g 2).toNat) fun g h hgh => by
    rw [hgh 0 (by decide), hgh 1 (by decide), hgh 2 (by decide)]

theorem writtenStops_append (hp : 2 + 5 * argN p 2 ≤ p.length) : writtenStops (p ++ extra) = writtenStops p :=
  map_entries_append 5 hp extra
    (fun g => Stop.mk (g 0).toNat (g 1).toNat (g 2).toNat (g 3).toNat ((g 4).getLsbD 0) ((g 4).getLsbD 1)
      (bits (g 4) 2 2) (policyOf (bits (g 4) 4 2)) (bits (g 4) 6 3) .pending) fun g h hgh => by
    rw [hgh 0 (by decide), hgh 1 (by decide), hgh 2 (by decide), hgh 3 (by decide), hgh 4 (by decide)]

end Counted

/-- Every kind is judged by checks in order, and reads no word beyond the required. -/
theorem judgeKind_byChecks (k : MsgKind) (s : State) : ByChecks s fun strict p => judgeKind k strict p s := by
  cases k
  case setLane => exact byChecks_judged 5 _ _ (fun _ => .same _) (fun | [_, _, _, _, _], _, rfl => rfl)
  case readLanes => exact byChecks_nil _ rfl
  case setSeat => exact byChecks_judged 7 _ _ (fun _ => .reserved _ _) (fun | [_, _, _, _, _, _, _], _, rfl => rfl)
  case setSeatRange =>
    exact byChecks_judged 8 _ _ (fun _ => .reserved _ _) (fun | [_, _, _, _, _, _, _, _], _, rfl => rfl)
  case readSeat => exact byChecks_answered 1 _ _ (fun _ => .same _) (fun | [_], _, rfl => rfl)
  case setSeatLine => exact byChecks_judged 5 _ _ (fun _ => .reserved _ _) (fun | [_, _, _, _, _], _, rfl => rfl)
  case readLine => exact byChecks_answered 1 _ _ (fun _ => .same _) (fun | [_], _, rfl => rfl)
  case setAudio => exact byChecks_judged 7 _ _ (fun _ => .same _) (fun | [_, _, _, _, _, _, _], _, rfl => rfl)
  case setRoute => exact byChecks_judged 4 _ _ (fun _ => .reserved _ _) (fun | [_, _, _, _], _, rfl => rfl)
  case readStops => exact byChecks_answered 2 _ _ (fun _ => .same _) (fun | [_, _], _, rfl => rfl)
  case position => exact byChecks_judged 3 _ _ (fun _ => .reserved _ _) (fun | [_, _, _], _, rfl => rfl)
  case tour => exact byChecks_judged 1 _ _ (fun _ => .same _) (fun | [_], _, rfl => rfl)
  case announce => exact byChecks_judged 4 _ _ (fun _ => .same _) (fun | [_, _, _, _], _, rfl => rfl)
  case clipStart =>
    exact .fixed 1 (fun _ p => [(outside 1 255 (argN p 1), .range)]) (fun p => clipStartOutcome (argN p 1) s)
      (fun _ => .same _) (fun | [_], _, rfl => rfl) (fun p => clipStartOutcome_writesNothing _ s)
  case clipEnd =>
    exact byChecks_judged 1
      (fun _ p => [(outside 1 255 (argN p 1), .range), (!playingTicket (argN p 1) s, .state)])
      (fun _ => toTrailing .clipEnd s) (fun _ => .same _) (fun | [_], _, rfl => rfl)
  case cancel => exact byChecks_judged 3 _ _ (fun _ => .same _) (fun | [_, _, _], _, rfl => rfl)
  case readQueue => exact byChecks_nil _ rfl
  case setAnnounce => exact byChecks_judged 4 _ _ (fun _ => .reserved _ _) (fun | [_, _, _, _], _, rfl => rfl)
  case setPattern => exact byChecks_judged 4 _ _ (fun _ => .same _) (fun | [_, _, _, _], _, rfl => rfl)
  case applyScene => exact byChecks_judged 1 _ _ (fun _ => .same _) (fun | [_], _, rfl => rfl)
  case setZones => exact byChecks_judged 2 _ _ (fun _ => .same _) (fun | [_, _], _, rfl => rfl)
  case readZones => exact byChecks_nil _ rfl
  case setCue =>
    exact byChecks_judged 11 _ _ (fun _ => .reserved _ _)
      (fun | [_, _, _, _, _, _, _, _, _, _, _], _, rfl => rfl)
  case marker => exact byChecks_judged 1 _ _ (fun _ => .same _) (fun | [_], _, rfl => rfl)
  case setAmbient => exact byChecks_judged 4 _ _ (fun _ => .same _) (fun | [_, _, _, _], _, rfl => rfl)
  case readCues => exact byChecks_answered 2 _ _ (fun _ => .same _) (fun | [_, _], _, rfl => rfl)
  case readStatus =>
    exact .fixed 1 (fun strict p => [reservedCheck strict (above 0 (arg p 1))])
      (fun p => ⟨.accepted, readStatusData s, if (arg p 1).getLsbD 0 then clearCounters s else s⟩)
      (fun _ => .reserved _ _) (fun | [_], _, rfl => rfl) (fun p => accepted_writesNothing rfl)
  case setNotices => exact byChecks_judged 1 _ _ (fun _ => .reserved _ _) (fun | [_], _, rfl => rfl)
  case readNotices => exact byChecks_answered 1 _ _ (fun _ => .reserved _ _) (fun | [_], _, rfl => rfl)
  case clearNotices => exact byChecks_judged 1 _ _ (fun _ => .reserved _ _) (fun | [_], _, rfl => rfl)
  case setProfile => exact byChecks_judged 1 _ _ (fun _ => .same _) (fun | [_], _, rfl => rfl)
  case restart => exact byChecks_nil _ rfl
  case setCarousel =>
    refine .counted 1 12 (fun c => 1 + c) _ (fun p => ⟨.accepted, [], replaceCarousel (carouselTags p) s⟩) (by decide)
      (fun _ => .same _) (fun p extra _ hp => ?_) (fun p => accepted_writesNothing rfl)
    rw [carouselTags_append hp]
  case writeStops =>
    refine .counted 2 8 (fun c => 2 + 5 * c) _ (fun p => ⟨.accepted, [],
      setRoute { s.route with stops := placeStops (argN p 1) (writtenStops p) s.route.stops } s⟩) (by decide)
      (fun _ => .reserved _ _) (fun p extra hat hp => ?_) (fun p => accepted_writesNothing rfl)
    simp only [reservedCheck, Bool.false_and]
    rw [writtenStops_append extra hp, argN_append extra (by decide) (by omega), argN_append extra (by decide) hat]
  case setChime =>
    refine .counted 2 4 (fun c => 2 + 3 * c) _ (fun p => ⟨.accepted, [],
      s.withAnn { s.ann with slots := setAt s.ann.slots (Fin.ofNat 4 (argN p 1)) (notesOf p) }⟩) (by decide)
      (fun _ => .same _) (fun p extra hat hp => ?_) (fun p => accepted_writesNothing rfl)
    dsimp only
    rw [notesOf_append extra hp, argN_append extra (by decide) (by omega)]
  case setScene =>
    refine .counted 2 8 (fun c => 2 + 3 * c) _ (fun p => ⟨.accepted, [],
      s.withLights { s.lights with scenes := setAt s.lights.scenes (Fin.ofNat 16 (argN p 1)) (itemsOf p) }⟩) (by decide)
      (fun _ => .reserved _ _) (fun p extra hat hp => ?_) (fun p => accepted_writesNothing rfl)
    simp only [reservedCheck, Bool.false_and]
    rw [itemsOf_append extra hp, argN_append extra (by decide) (by omega)]

/-- Settles O37. -/
theorem refusedMessageWritesNothing : Obligations.RefusedMessageWritesNothing :=
  fun k strict p s => (judgeKind_byChecks k s).refused strict p

/-- Settles O38. -/
theorem lenientIsTheWeakerProfile : Obligations.LenientIsTheWeakerProfile :=
  ⟨fun k _ s => (judgeKind_byChecks k s).relaxed, fun k _ extra s => (judgeKind_byChecks k s).ignores extra⟩

end Sys2Proof.Machine

/-! # Proofs: Position and Tour (O45, O46) -/

namespace Sys2Proof.Machine

set_option Elab.async false

/-! ## A message that may complete a cue -/

/-- An accepted message of a kind that may complete a cue: its effect, its Reply, then the cue (R26, R29, R140). -/
theorem Addressed.message_completes {h : MsgHead} {s : State} (ha : Addressed h s) {k : MsgKind} {p : List Word}
    (hk : mayComplete k = true) (hp : p.length ≤ 64) {data : List Word} {u : State}
    (hv : judgeKind k (s.pins.profile == .strict) p (decoderIdle s) = ⟨.accepted, data, u⟩) :
    message k h p s = .next (tryCue (reply h (kindCode k) .accepted data u)) := by
  have hjudge : judgeMessage h (kindCode k) p (decoderIdle s) = ⟨.accepted, data, u⟩ :=
    ((addressed_decoderIdle ha).judgeMessage_eq k p).trans hv
  rw [ha.message_eq k hp, completeMessage, hjudge]
  simp [completes, hk]

/-- A refused message of any kind: its Reply, and no cue. -/
theorem Addressed.message_refuses {h : MsgHead} {s : State} (ha : Addressed h s) {k : MsgKind} {p : List Word}
    (hp : p.length ≤ 64) {r : Result} (hr : r ≠ .accepted) {u : State}
    (hv : judgeKind k (s.pins.profile == .strict) p (decoderIdle s) = refuse r u) :
    message k h p s = .next (reply h (kindCode k) r [] u) := by
  have hjudge : judgeMessage h (kindCode k) p (decoderIdle s) = refuse r u :=
    ((addressed_decoderIdle ha).judgeMessage_eq k p).trans hv
  have hnot : completes (kindCode k) r = false := by rw [completes, beq_eq_false_iff_ne.mpr hr, Bool.false_and]
  rw [ha.message_eq k hp, completeMessage, hjudge]
  exact congrArg Host.Outcome.next (if_neg (by rw [refuse, hnot]; decide))

/-! ## What a cue and a Reply leave of the route and the records -/

theorem TouchesEffects.routeKept {s t : State} (h : TouchesEffects s t) : t.route = s.route := by
  unfold TouchesEffects at h; rw [h]

theorem TouchesAnn.mixerKept {s t : State} (h : TouchesAnn s t) : t.mixer = s.mixer := by
  unfold TouchesAnn at h; rw [h]

/-- What an accepted message answers and completes is outside the route. -/
theorem answered_route (h : MsgHead) (k : BitVec 6) (u : State) :
    (tryCue (reply h k .accepted [] u)).route = u.route :=
  (tryCue_frame _).routeKept.trans (reply_frame h k _ _ u).effects.routeKept

theorem answered_records (h : MsgHead) (k : BitVec 6) (u : State) :
    (tryCue (reply h k .accepted [] u)).seats.records = u.seats.records :=
  (tryCue_ramps _).2.2.trans (reply_frame h k _ _ u).ramps.2.2

/-! ## Placing a fix (R114 to R116) -/

/-- Stops back to PENDING, with their WAITING entries removed. -/
theorem returnToPending_eq (p : Stop → Bool) (s : State) : returnToPending p s = { s with
    route := { s.route with stops := s.route.stops.map fun st => if p st = true then { st with lap := .pending } else st }
    ann := { s.ann with queue := s.ann.queue.filter fun e =>
      !(e.state == .waiting && e.kind != .general && ((s.route.stops.filter p).map (·.number)).contains e.subject) } } := by
  simp [returnToPending, removeWaiting, setQueue, setRoute, State.withAnn, State.withRoute, isWaiting, Bool.and_assoc]

theorem returnToPending_none {p : Stop → Bool} {s : State} (hp : ∀ st ∈ s.route.stops, p st = false) :
    returnToPending p s = s := by
  have hstops : (s.route.stops.map fun st => if p st = true then { st with lap := .pending } else st) = s.route.stops :=
    (List.map_congr_left fun st hst => if_neg (by rw [hp st hst]; decide)).trans (List.map_id _)
  have hback : s.route.stops.filter p = [] := List.filter_eq_nil_iff.mpr fun st hst => by rw [hp st hst]; decide
  rw [returnToPending_eq, hstops, hback]
  simp

/-- A fix at `n` far behind the estimate of a LOOP: a lap wrap (R116). -/
def wrapsAt (n : Nat) (r : Route) : Bool := r.seeded && r.loop && decide (n + r.length * 50 < r.estimate)

/-- A fix at `n` behind the estimate by more than the tolerance, and no lap wrap: a reseek (R116). -/
def reseeksAt (n : Nat) (r : Route) : Bool := r.seeded && !wrapsAt n r && decide (n + r.tolerance * 100 < r.estimate)

/-- The stops that a fix at `n` brings back: all at a wrap, those ahead of it at a reseek. -/
def backAt (n : Nat) (r : Route) (st : Stop) : Bool :=
  wrapsAt n r || (reseeksAt n r && decide (n + st.radius * 100 < st.metre * 100))

/-- The state with a fix placed at `n`, all its cases in one (R116). -/
def placedAt (n : Nat) (s : State) : State :=
  let t := returnToPending (backAt n s.route) s
  setRoute { t.route with
    estimate := n, seeded := true, laps := if wrapsAt n s.route = true then satInc 65535 s.route.laps else s.route.laps } t

theorem placedAt_forward {n : Nat} {s : State} (hwraps : wrapsAt n s.route = false)
    (hreseeks : reseeksAt n s.route = false) :
    placedAt n s = setRoute { s.route with estimate := n, seeded := true } s := by
  have hback : ∀ st ∈ s.route.stops, backAt n s.route st = false := fun st _ => by
    rw [backAt, hwraps, hreseeks]; rfl
  rw [placedAt, returnToPending_none hback, hwraps]
  rfl

theorem placedAt_seeded {n : Nat} {s : State} (h : s.route.seeded = true) :
    placedAt n s = setRoute { (returnToPending (backAt n s.route) s).route with
      estimate := n, laps := if wrapsAt n s.route = true then satInc 65535 s.route.laps else s.route.laps }
      (returnToPending (backAt n s.route) s) := by
  have heta {r : Route} (hr : r.seeded = true) (l : Nat) :
      { r with estimate := n, seeded := true, laps := l } = { r with estimate := n, laps := l } := by
    obtain ⟨length, loop, tolerance, haltSpeed, estimate, remainder, speed, age, status, seeded, laps, stops, session⟩ := r
    subst hr; rfl
  exact congrArg (setRoute · _) (heta (r := (returnToPending (backAt n s.route) s).route) h _)

theorem placeFix_eq (n : Nat) (s : State) : placeFix n s = placedAt n s := by
  have hforward {b : Bool} (hb : s.route.seeded = b) :
      { s.route with estimate := n, seeded := b } = { s.route with estimate := n } := by
    subst hb; rfl
  unfold placeFix
  dsimp only
  by_cases hseeded : s.route.seeded = true
  case neg =>
    rw [Bool.not_eq_true] at hseeded
    have hwraps : wrapsAt n s.route = false := by rw [wrapsAt, hseeded]; rfl
    have hreseeks : reseeksAt n s.route = false := by rw [reseeksAt, hseeded]; rfl
    rw [if_pos (by rw [hseeded]; rfl), placedAt_forward hwraps hreseeks]
  rw [if_neg (by rw [hseeded]; decide)]
  have hlap : (s.route.loop && decide (s.route.length * 50 < s.route.estimate - n)) = wrapsAt n s.route := by
    rw [wrapsAt, hseeded, Bool.true_and]
    exact congrArg (s.route.loop && ·) (decide_eq_decide.mpr (by omega))
  rw [hlap]
  by_cases hwraps : wrapsAt n s.route = true
  · have hall : backAt n s.route = fun _ => true := funext fun st => by rw [backAt, hwraps]; rfl
    rw [if_pos hwraps, placedAt_seeded hseeded, hall, hwraps, lapWrap, returnToPending_eq, returnToPending_eq]
    rfl
  rw [if_neg hwraps]
  rw [Bool.not_eq_true] at hwraps
  have hreseek : reseeksAt n s.route = decide (n + s.route.tolerance * 100 < s.route.estimate) := by
    rw [reseeksAt, hseeded, hwraps]; rfl
  by_cases hfar : n + s.route.tolerance * 100 < s.route.estimate
  · rw [decide_eq_true hfar] at hreseek
    have hahead : backAt n s.route = fun st => windowAhead st n := funext fun st => by
      rw [backAt, hwraps, hreseek]; rfl
    have hsmall : ¬(n < s.route.estimate && decide (s.route.estimate - n ≤ s.route.tolerance * 100)) = true := by
      simp; omega
    rw [if_neg hsmall, if_pos (by omega), placedAt_seeded hseeded, hahead, hwraps, returnToPending_eq, returnToPending_eq]
    rfl
  · rw [decide_eq_false hfar] at hreseek
    rw [placedAt_forward hwraps hreseek, hforward hseeded]
    by_cases hbehind : n < s.route.estimate
    · have hsmall : (n < s.route.estimate && decide (s.route.estimate - n ≤ s.route.tolerance * 100)) = true := by
        simp; omega
      rw [if_pos hsmall]
    · have hsmall : ¬(n < s.route.estimate && decide (s.route.estimate - n ≤ s.route.tolerance * 100)) = true := by
        simp; omega
      rw [if_neg hsmall, if_neg hbehind]

/-- The state that a valid fix leaves before the stops are evaluated (R114, R116). -/
def fixed (cm v : Nat) (s : State) : State :=
  let t := placedAt (min cm (s.route.length * 100)) s
  setRoute { t.route with remainder := 0, speed := min v 2500, age := 0, status := .fresh } t

theorem takeFix_eq (cm v : Nat) (s : State) :
    takeFix cm v s = if s.route.session = .running then evaluated (fixed cm v s) else fixed cm v s := by
  have hfixed : takeFix cm v s = evaluateStops (fixed cm v s) := by
    rw [takeFix, placeFix_eq]
    rfl
  have hsession : (fixed cm v s).route.session = s.route.session := by
    rw [fixed, placedAt, returnToPending_eq]; rfl
  have htrusted : trusted (fixed cm v s).route = true := rfl
  rw [hfixed, evaluateStops_eq, hsession]
  exact if_congr (and_iff_left htrusted) rfl rfl

section Payload

variable {cm v : Nat} (hcm : cm < 16777216) (hv : v < 4096)
include hcm hv

/-- The words of a Position carry its 24-bit position, its 12-bit speed and its valid flag, no reserved bit set (R114). -/
theorem position_words (valid : Bool) :
    above 7 (word (cm / 65536)) = false ∧ bits (BitVec.ofBool valid ++ BitVec.ofNat 15 v) 12 3 = 0 ∧
      (BitVec.ofBool valid ++ BitVec.ofNat 15 v).getLsbD 15 = valid ∧
      bits (word (cm / 65536)) 0 8 * 65536 + (word (cm % 65536)).toNat = cm ∧
      bits (BitVec.ofBool valid ++ BitVec.ofNat 15 v) 0 12 = v := by
  have hhigh : (word (cm / 65536)).toNat = cm / 65536 := word_toNat (by omega)
  have hlow : (word (cm % 65536)).toNat = cm % 65536 := word_toNat (by omega)
  have hthird : (BitVec.ofBool valid ++ BitVec.ofNat 15 v).toNat = (if valid then 32768 else 0) + v := by
    rw [BitVec.toNat_append, BitVec.toNat_ofNat, Nat.mod_eq_of_lt (by omega), ← Nat.shiftLeft_add_eq_or_of_lt (by omega)]
    cases valid <;> rfl
  simp only [above, bits, hhigh, hlow, hthird]
  refine ⟨?_, ?_, ?_, by omega, by split <;> omega⟩
  · rw [bne_eq_false_iff_eq]; omega
  · split <;> omega
  · rw [BitVec.getLsbD_append]
    cases valid <;> rfl

theorem judgePosition_eq (strict valid : Bool) (s : State) :
    judgeKind .position strict (positionPayload valid (word (cm / 65536)) (word (cm % 65536)) (BitVec.ofNat 15 v) []) s =
      ⟨.accepted, [], if valid = true then takeFix cm v s else takeInvalidFix s⟩ := by
  obtain ⟨habove, hreserved, hvalid, hposition, hspeed⟩ := position_words hcm hv valid
  refine (judged_pass (by
    simp [firstFailure_none_iff, lengthChecks, reservedCheck, positionPayload, arg, habove, hreserved])).trans ?_
  simp only [positionPayload, arg, argN, List.getD_cons_zero, List.getD_cons_succ, Nat.reduceSub, hvalid, hposition, hspeed]

end Payload

/-- Settles O45. -/
theorem positionIsPlaced : Obligations.PositionIsPlaced := by
  intro h s cm v ha hcm hv r n wraps reseeks back p answered
  have hjudge (valid : Bool) := judgePosition_eq hcm hv (s.pins.profile == .strict) valid (decoderIdle s)
  have hfixed : fixed cm v (decoderIdle s) = p := by
    rw [fixed, placedAt, returnToPending_eq]; rfl
  have hshort (valid : Bool) :
      (positionPayload valid (word (cm / 65536)) (word (cm % 65536)) (BitVec.ofNat 15 v) []).length ≤ 64 :=
    (by decide : 3 ≤ 64)
  have hfix := ha.message_completes (k := .position) rfl (hshort true) (hjudge true)
  rw [if_pos rfl, takeFix_eq, hfixed] at hfix
  refine ⟨ha.message_completes (k := .position) rfl (hshort false) (hjudge false), hfix, fun hidle => ⟨_, hfix, ?_⟩⟩
  have hidle' : ¬(decoderIdle s).route.session = .running := hidle
  rw [if_neg hidle']
  exact answered_route h _ p

/-! ## Tour (R131 to R134) -/

theorem exec_tour {h : MsgHead} {s : State} (ha : Addressed h s) {w : Word} {u : State}
    (hv : judgeKind .tour (s.pins.profile == .strict) [w] (decoderIdle s) = ⟨.accepted, [], u⟩) :
    message .tour h [w] s = .next (tryCue (reply h 0x1C#6 .accepted [] u)) :=
  ha.message_completes (k := .tour) (p := [w]) rfl (by decide : 1 ≤ 64) hv

theorem judgeTour_start (strict : Bool) (s : State) : judgeKind .tour strict [0#16] s = ⟨.accepted, [], tourStart s⟩ := by
  cases strict <;> rfl

theorem judgeTour_end (strict : Bool) (s : State) : judgeKind .tour strict [3#16] s = ⟨.accepted, [], tourEnd s⟩ := by
  cases strict <;> rfl

/-- PAUSE asks for RUNNING (R131). -/
theorem judgeTour_pause (strict : Bool) (s : State) : judgeKind .tour strict [1#16] s =
    if s.route.session = .running then ⟨.accepted, [], tourPause s⟩ else refuse .state s := by
  have hchecks : judgeKind .tour strict [1#16] s = judged [(s.route.session != .running, .state)] s (tourPause s) := by
    have hbad : tourStateBad (argN [1#16] 1) s.route.session = (s.route.session != .running) := Bool.or_false _
    change judgeTour strict [1#16] s = _
    rw [judgeTour, hbad]
    cases strict <;> rfl
  rw [hchecks]
  cases s.route.session <;> rfl

/-- RESUME asks for LAYOVER (R131). -/
theorem judgeTour_resume (strict : Bool) (s : State) : judgeKind .tour strict [2#16] s =
    if s.route.session = .layover then ⟨.accepted, [], tourResume s⟩ else refuse .state s := by
  have hchecks : judgeKind .tour strict [2#16] s = judged [(s.route.session != .layover, .state)] s (tourResume s) := by
    cases strict <;> rfl
  rw [hchecks]
  cases s.route.session <;> rfl

theorem tourStart_eq (s : State) :
    tourStart s = raise ⟨.tour, 1⟩ (tourStartSeats (clearForTour (s.withRoute (startedRoute s.route)))) := rfl

theorem tourPause_eq (s : State) : tourPause s = raise ⟨.tour, 2⟩
    (removeWaiting (fun e => e.kind != .general) (s.withRoute { s.route with session := .layover })) := rfl

section Exec

variable {h : MsgHead} {s : State} (ha : Addressed h s)
include ha

theorem exec_tourStart : exec (.tourStart h []) s =
    .next (tryCue (reply h 0x1C#6 .accepted [] (tourStart (decoderIdle s)))) :=
  exec_tour ha (w := 0#16) (judgeTour_start _ _)

theorem exec_tourEnd : exec (.tourEnd h []) s =
    .next (tryCue (reply h 0x1C#6 .accepted [] (tourEnd (decoderIdle s)))) :=
  exec_tour ha (w := 3#16) (judgeTour_end _ _)

theorem exec_tourPause (hsession : s.route.session = .running) : exec (.tourPause h []) s =
    .next (tryCue (reply h 0x1C#6 .accepted [] (tourPause (decoderIdle s)))) :=
  exec_tour ha (w := 1#16) ((judgeTour_pause _ _).trans (if_pos hsession))

theorem exec_tourResume (hsession : s.route.session = .layover) : exec (.tourResume h []) s =
    .next (tryCue (reply h 0x1C#6 .accepted [] (tourResume (decoderIdle s)))) :=
  exec_tour ha (w := 2#16) ((judgeTour_resume _ _).trans (if_pos hsession))

theorem exec_tourPause_refused (hsession : s.route.session ≠ .running) :
    exec (.tourPause h []) s = .next (reply h 0x1C#6 .state [] (decoderIdle s)) :=
  ha.message_refuses (k := .tour) (p := [1#16]) (by decide : 1 ≤ 64) (by decide)
    ((judgeTour_pause _ _).trans (if_neg hsession))

theorem exec_tourResume_refused (hsession : s.route.session ≠ .layover) :
    exec (.tourResume h []) s = .next (reply h 0x1C#6 .state [] (decoderIdle s)) :=
  ha.message_refuses (k := .tour) (p := [2#16]) (by decide : 1 ≤ 64) (by decide)
    ((judgeTour_resume _ _).trans (if_neg hsession))

end Exec

/-- An entry as an abort leaves it. -/
def trailed (r : Reason) (e : Entry) : Entry := { e with state := .trailing, reason := some r }

/-- The WAITING entries gone and the active one aborted, in either order. -/
theorem filter_trailed (r : Reason) (q : List Entry) :
    ((q.map fun e => if isActive e then trailed r e else e).filter fun e => !(isWaiting e && true)) =
      (q.filter fun e => e.state != .waiting).map (trailed r) := by
  induction q with
  | nil => rfl
  | cons e q ih =>
    by_cases h : e.state = .waiting
    · simp [isActive, isWaiting, h] at ih ⊢
      exact ih
    · simp [isActive, isWaiting, h, trailed] at ih ⊢
      exact ih

/-- An abort and the removal of every WAITING entry. -/
theorem removeWaiting_toTrailing (r : Reason) (s : State) : removeWaiting (fun _ => true) (toTrailing r s) =
    s.withAnn { s.ann with
      queue := (s.ann.queue.filter fun e => e.state != .waiting).map (trailed r), chime := none } := by
  rw [← filter_trailed]
  rfl

theorem removeWaiting_all (s : State) : removeWaiting (fun _ => true) s =
    s.withAnn { s.ann with queue := s.ann.queue.filter fun e => e.state != .waiting } := by
  have hfilter : (fun e => !(isWaiting e && true)) = fun e : Entry => e.state != .waiting := by
    funext e; rw [Bool.and_true]; rfl
  rw [removeWaiting, hfilter]
  rfl

/-- An entry that is in hand is aborted, and no other. -/
theorem abortActive_eq (r : Reason) (s : State) : abortActive r s =
    if announceState s = some .cued ∨ announceState s = some .playing then
      toTrailing r (offerReport (abortReport (((activeEntry s).map (·.ticket)).getD 0) r) s)
    else s := by
  have hlamp := lampLit_iff s
  rw [lampLit] at hlamp
  rw [abortActive]
  cases hactive : activeEntry s with
  | none => exact (if_neg (mt hlamp.mpr (by rw [hactive]; exact Bool.false_ne_true))).symm
  | some e =>
    rw [hactive] at hlamp
    exact if_congr hlamp rfl rfl

/-- START and END clear the queue: the abort TOUR, and no WAITING entry left (R132, R134). -/
theorem clearForTour_eq (s : State) : clearForTour s =
    if announceState s = some .cued ∨ announceState s = some .playing then
      (offerReport ⟨0x35#6, 0, [word (((activeEntry s).map (·.ticket)).getD 0), 8]⟩ s).withAnn { s.ann with
        queue := (s.ann.queue.filter fun e => e.state != .waiting).map (trailed .tour)
        chime := none }
    else s.withAnn { s.ann with queue := s.ann.queue.filter fun e => e.state != .waiting } := by
  rw [clearForTour, abortActive_eq]
  split
  · rw [removeWaiting_toTrailing, offerReport_ann]
    rfl
  · exact removeWaiting_all s

/-- The seat records of a tour that begins: the default language on its lane, the default step (R87). -/
def startedSeats (s : State) : SeatTable := ⟨Vector.ofFn fun i : Fin 65 => { s.seats.records[i] with
  language := s.prog.carousel.head?, step := s.mixer.audio.defaultStep
  sounding := commentaryLane s.prog s.prog.carousel.head?, phase := .steady, fade := 32767 }, s.seats.paSource⟩

theorem startedSeats_record (s : State) (i : Fin 65) : (startedSeats s).records[i] = { s.seats.records[i] with
    language := s.prog.carousel.head?, step := s.mixer.audio.defaultStep
    sounding := commentaryLane s.prog s.prog.carousel.head?, phase := .steady, fade := 32767 } :=
  Vector.getElem_ofFn i.isLt

theorem startedSeats_congr {s t : State} (hseats : t.seats = s.seats) (hprog : t.prog = s.prog)
    (hmixer : t.mixer = s.mixer) :
    startedSeats t = startedSeats s := by
  rw [startedSeats, hseats, hprog, hmixer, startedSeats]

theorem tourStartSeats_eq (s : State) : tourStartSeats s = s.withSeats (startedSeats s) := rfl

theorem clearForTour_touches (s : State) : TouchesAnn s (clearForTour s) :=
  (abortActive_frame _ s).trans (removeWaiting_frame _ _)

/-- START's effect on the records, after the queue is cleared. -/
theorem tourStartSeats_clearForTour (s : State) :
    tourStartSeats (clearForTour s) = (clearForTour s).withSeats (startedSeats s) := by
  have hframe := clearForTour_touches s
  rw [tourStartSeats_eq, startedSeats_congr hframe.seats hframe.effects.prog hframe.mixerKept]

/-- A command whose outcome is given by the route it leaves. -/
theorem exists_of_route {answer : Answer} {f : Route → State} {r : Route} (h : answer = .next (f r)) (hr : (f r).route = r) :
    ∃ t, answer = .next t ∧ t = f t.route ∧ t.route = r := ⟨_, h, by rw [hr], hr⟩

/-- START clears the queue, and then gives every record its language and step. -/
theorem tourStart_settles (s : State) : tourStart s =
    raise ⟨.tour, 1⟩ ((clearForTour (s.withRoute (startedRoute s.route))).withSeats (startedSeats s)) := by
  have hseats : startedSeats (s.withRoute (startedRoute s.route)) = startedSeats s := startedSeats_congr rfl rfl rfl
  rw [tourStart_eq, tourStartSeats_clearForTour, hseats]

theorem tourEnd_settles (s : State) : tourEnd s =
    if s.route.session = .idle then clearForTour (s.withRoute { s.route with session := .idle })
    else raise ⟨.tour, 0⟩ (clearForTour (s.withRoute { s.route with session := .idle })) := if_congr beq_iff_eq rfl rfl

theorem clearForTour_route (r : Route) (s : State) : (clearForTour (s.withRoute r)).route = r :=
  (clearForTour_touches _).effects.routeKept

theorem answered_raise_route (h : MsgHead) (k : BitVec 6) (t : Trigger) (u : State) :
    (tryCue (reply h k .accepted [] (raise t u))).route = u.route :=
  (answered_route h _ _).trans (raise_frame t u).routeKept

theorem answered_raise_records (h : MsgHead) (k : BitVec 6) (t : Trigger) (u : State) :
    (tryCue (reply h k .accepted [] (raise t u))).seats.records = u.seats.records :=
  (answered_records h _ _).trans (raise_ramps t u).2.2

section Settled

variable {h : MsgHead} {s : State} (ha : Addressed h s)
include ha

theorem exec_tourStart_settles : ∃ t, exec (.tourStart h []) s = .next t ∧
    t = tryCue (reply h 0x1C#6 .accepted [] (raise ⟨.tour, 1⟩
      ((clearForTour ((decoderIdle s).withRoute t.route)).withSeats (startedSeats s)))) ∧
    t.route = startedRoute s.route ∧ t.seats.records = (startedSeats s).records := by
  have hexec := exec_tourStart ha
  have hseats : startedSeats (decoderIdle s) = startedSeats s := startedSeats_congr rfl rfl rfl
  rw [tourStart_settles, hseats] at hexec
  have hroute : (decoderIdle s).route = s.route := rfl
  rw [hroute] at hexec
  obtain ⟨t, ht, hshape, hstarted⟩ := exists_of_route (r := startedRoute s.route)
    (f := fun r => tryCue (reply h 0x1C#6 .accepted [] (raise ⟨.tour, 1⟩
      ((clearForTour ((decoderIdle s).withRoute r)).withSeats (startedSeats s))))) hexec
    ((answered_raise_route _ _ _ _).trans ((State.withSeats_route _ _).trans (clearForTour_route _ _)))
  refine ⟨t, ht, hshape, hstarted, ?_⟩
  rw [hshape, answered_raise_records, State.withSeats_seats]

theorem exec_tourPause_settles (hrunning : s.route.session = .running) : ∃ t, exec (.tourPause h []) s = .next t ∧
    t = tryCue (reply h 0x1C#6 .accepted [] (raise ⟨.tour, 2⟩
      (removeWaiting (fun e => e.kind != .general) ((decoderIdle s).withRoute t.route)))) ∧
    t.route = { s.route with session := .layover } := by
  have hexec := exec_tourPause ha hrunning
  rw [tourPause_eq] at hexec
  exact exists_of_route (r := { s.route with session := .layover })
    (f := fun r => tryCue (reply h 0x1C#6 .accepted [] (raise ⟨.tour, 2⟩
      (removeWaiting (fun e => e.kind != .general) ((decoderIdle s).withRoute r))))) hexec
    (answered_raise_route _ _ _ _)

theorem exec_tourEnd_settles : ∃ t, exec (.tourEnd h []) s = .next t ∧
    t = tryCue (reply h 0x1C#6 .accepted [] (if s.route.session = .idle then clearForTour ((decoderIdle s).withRoute t.route)
      else raise ⟨.tour, 0⟩ (clearForTour ((decoderIdle s).withRoute t.route)))) ∧
    t.route = { s.route with session := .idle } ∧ t.seats.records = s.seats.records := by
  have hexec := exec_tourEnd ha
  have hroute : (decoderIdle s).route = s.route := rfl
  rw [tourEnd_settles, hroute] at hexec
  have hsettled : (tryCue (reply h 0x1C#6 .accepted [] (if s.route.session = .idle then
      clearForTour ((decoderIdle s).withRoute { s.route with session := .idle })
      else raise ⟨.tour, 0⟩ (clearForTour ((decoderIdle s).withRoute { s.route with session := .idle }))))).route =
        { s.route with session := .idle } := by
    split
    · exact (answered_route _ _ _).trans (clearForTour_route _ _)
    · exact (answered_raise_route _ _ _ _).trans (clearForTour_route _ _)
  obtain ⟨t, ht, hshape, hidle⟩ := exists_of_route (r := { s.route with session := .idle })
    (f := fun r => tryCue (reply h 0x1C#6 .accepted [] (if s.route.session = .idle then
      clearForTour ((decoderIdle s).withRoute r) else raise ⟨.tour, 0⟩ (clearForTour ((decoderIdle s).withRoute r)))))
    hexec hsettled
  refine ⟨t, ht, hshape, hidle, ?_⟩
  have hcleared : (clearForTour ((decoderIdle s).withRoute t.route)).seats.records = s.seats.records :=
    (clearForTour_touches _).ramps.2.2
  rw [hshape]
  split
  · exact (answered_records _ _ _).trans hcleared
  · exact (answered_raise_records _ _ _ _).trans hcleared

end Settled

/-- Settles O46. -/
theorem tourActionsChangeTheSession : Obligations.TourActionsChangeTheSession := by
  intro h s ha b answered cleared
  have hcleared (r : Route) : clearForTour (b.withRoute r) = cleared (b.withRoute r) := clearForTour_eq _
  have htrusted : trusted s.route = true ↔ s.route.status = .fresh ∨ s.route.status = .deadReckoned := trusted_iff _
  have hresume : tourResume b = raise ⟨.tour, 1⟩ (if s.route.status = .fresh ∨ s.route.status = .deadReckoned then
      evaluated (b.withRoute { s.route with session := .running }) else b.withRoute { s.route with session := .running }) := by
    rw [tourResume, evaluateStops_eq]
    exact congrArg (raise _) (if_congr ((and_iff_right rfl).trans htrusted) rfl rfl)
  have resumes (hlayover : s.route.session = .layover) : exec (.tourResume h []) s = .next (answered (tourResume b)) :=
    exec_tourResume ha hlayover
  refine ⟨?start, fun hrunning => ?pause, fun hlayover => ?resume, fun hlayover hblind => ?blind, ?ends, fun hnot => ?noPause,
    fun hnot => ?noResume⟩
  case start =>
    obtain ⟨t, ht, hshape, hstarted, hrecords⟩ := exec_tourStart_settles ha
    rw [hcleared] at hshape
    refine ⟨t, ht, hshape, hstarted, fun i => ?_⟩
    rw [hrecords]
    exact startedSeats_record s i
  case pause =>
    obtain ⟨t, ht, hshape, hpaused⟩ := exec_tourPause_settles ha hrunning
    exact ⟨t, ht, hpaused, hshape⟩
  case resume => rw [resumes hlayover, hresume]
  case blind =>
    have hnot : ¬(s.route.status = .fresh ∨ s.route.status = .deadReckoned) := by
      rcases hblind with h | h <;> rw [h] <;> decide
    refine ⟨_, resumes hlayover, ?_⟩
    rw [hresume, if_neg hnot]
    exact answered_raise_route _ _ _ _
  case ends =>
    obtain ⟨t, ht, hshape, hidle, hrecords⟩ := exec_tourEnd_settles ha
    rw [hcleared] at hshape
    exact ⟨t, ht, hidle, hrecords, hshape⟩
  case noPause => exact exec_tourPause_refused ha hnot
  case noResume => exact exec_tourResume_refused ha hnot

end Sys2Proof.Machine

/-! # Proofs: Clip Start and Cancel (O48) -/

namespace Sys2Proof.Machine

set_option Elab.async false

/-! ## Clip Start (R143, R144) -/

/-- A Clip Start of one word: RANGE, or the outcome against the active entry. -/
theorem judgeClipStart_eq (strict : Bool) {n : Nat} (hn : n < 65536) (s : State) :
    judgeKind .clipStart strict (payload [n]) s =
      if outside 1 255 n = true then refuse .range s else clipStartOutcome n s := by
  have hchecks := firstFailure_ticketChecks strict hn []
  rw [List.append_nil] at hchecks
  change judgeClipStart strict (payload [n]) s = _
  rw [judgeClipStart, hchecks, argN_payload hn]
  cases outside 1 255 n <;> rfl

theorem exec_clipStart {h : MsgHead} {s : State} (ha : Addressed h s) {n : Nat} {v : Verdict}
    (hv : judgeKind .clipStart (s.pins.profile == .strict) (payload [n]) (decoderIdle s) = v) :
    exec (.clipStart h (payload [n])) s = .next (reply h 0x21#6 v.result v.data v.state) :=
  ha.message_does (k := .clipStart) (p := payload [n]) rfl (by decide : 1 ≤ 64) hv

/-- A Clip Start for a CUED entry marks it, and makes it PLAYING where no chime sounds (R144). -/
theorem clipStartOutcome_cued {s : State} {e : Entry} (h : activeEntry s = some e) (hstate : e.state = .cued)
    (hclip : e.clipStarted = false) : clipStartOutcome e.ticket s = ⟨.accepted, [],
      if s.ann.chime.isNone && !(e.plan.getD []).isEmpty then
        startPlaying (updateActive (fun f => { f with clipStarted := true }) s)
      else updateActive (fun f => { f with clipStarted := true }) s⟩ := by
  rw [clipStartOutcome, h]
  dsimp only
  rw [if_pos rfl, hstate]
  exact if_neg (by rw [hclip]; decide)

/-- A Clip Start that finds no entry to start: the Abort STALE (R144). -/
theorem clipStartOutcome_stale {n : Nat} {s : State}
    (h : ∀ e, activeEntry s = some e → e.ticket ≠ n ∨ e.state = .trailing) :
    clipStartOutcome n s = refuse .state (offerReport (abortReport n .stale) s) := by
  unfold clipStartOutcome
  cases hactive : activeEntry s with
  | none => rfl
  | some e =>
    dsimp only
    rcases h e hactive with hticket | hstate
    · exact if_neg hticket
    · rw [hstate]
      split <;> rfl

/-- A Clip Start that comes a second time (R144). -/
theorem clipStartOutcome_again {s : State} {e : Entry} (h : activeEntry s = some e)
    (hstate : e.state = .playing ∨ e.state = .cued ∧ e.clipStarted = true) :
    clipStartOutcome e.ticket s = refuse .state s := by
  rw [clipStartOutcome, h]
  dsimp only
  rw [if_pos rfl]
  rcases hstate with hplaying | ⟨hcued, hclip⟩
  · rw [hplaying]
  · rw [hcued]
    exact if_pos hclip

theorem activeEntry_clipMark (s : State) : activeEntry (updateActive (fun f => { f with clipStarted := true }) s) =
    (activeEntry s).map fun f => { f with clipStarted := true } :=
  activeEntry_updateActive_of (f := fun f => { f with clipStarted := true }) (fun _ h => h) s

/-- Clip Start accepted: under a sounding chime it marks the entry, and otherwise makes it PLAYING. -/
theorem clipStart_accepted {h : MsgHead} {s : State} (ha : Addressed h s) {e : Entry} (hactive : activeEntry s = some e)
    (hlow : 1 ≤ e.ticket) (hhigh : e.ticket ≤ 255) (hstate : e.state = .cued) (hclip : e.clipStarted = false) :
    (s.ann.chime ≠ none →
      ∃ t, exec (.clipStart h (payload [e.ticket])) s = .next t ∧ activeEntry t = some { e with clipStarted := true } ∧
        t.ann.chime = s.ann.chime) ∧
    (s.ann.chime = none → e.plan.getD [] ≠ [] →
      (QuietCues s →
        ∃ t, exec (.clipStart h (payload [e.ticket])) s = .next t ∧ t.ann.playTimer = 0 ∧ t.ann.silenceRun = 0 ∧
          activeEntry t = some { e with clipStarted := true, state := .playing }) ∧
      ∀ (j : Fin 32) (pa : PaSource), OneCue j .announcePlaying 0 (.paSource pa) s →
        ∃ t, exec (.clipStart h (payload [e.ticket])) s = .next t ∧ t.seats.paSource = pa) := by
  have hin : ¬outside 1 255 e.ticket = true := by rw [outside_iff]; omega
  have houtcome := clipStartOutcome_cued (s := decoderIdle s) hactive hstate hclip
  have hjudge := (judgeClipStart_eq (s.pins.profile == .strict) (by omega : e.ticket < 65536) (decoderIdle s)).trans
    ((if_neg hin).trans houtcome)
  have hexec := exec_clipStart ha hjudge
  have hmarked : activeEntry (updateActive (fun f => { f with clipStarted := true }) (decoderIdle s)) =
      some { e with clipStarted := true } := by rw [activeEntry_clipMark, activeEntry_decoderIdle, hactive]; rfl
  have hsounds (hchime : s.ann.chime ≠ none) :
      ((decoderIdle s).ann.chime.isNone && !(e.plan.getD []).isEmpty) = false := by
    have hnone : (decoderIdle s).ann.chime.isNone = false :=
      Option.isNone_eq_false_iff.mpr (Option.isSome_iff_ne_none.mpr hchime)
    rw [hnone]
    rfl
  refine ⟨fun hchime => ⟨_, hexec, ?_, ?_⟩, fun hchime hplan => ?_⟩
  · rw [activeEntry_reply, hsounds hchime]
    exact hmarked
  · rw [reply_ann, hsounds hchime]
    rfl
  · have hstarts : ((decoderIdle s).ann.chime.isNone && !(e.plan.getD []).isEmpty) = true := by
      have hsilent : (decoderIdle s).ann.chime = none := hchime
      rw [hsilent, List.isEmpty_eq_false_iff.mpr hplan]; rfl
    rw [hstarts, if_pos rfl] at hexec
    refine ⟨fun hquiet => ⟨_, hexec, ?_⟩, fun j pa hone => ⟨_, hexec, ?_⟩⟩
    · have hplays := startPlaying_quiet (s := updateActive (fun f => { f with clipStarted := true }) (decoderIdle s))
        (hquiet.congr rfl)
      rw [activeEntry_reply, reply_ann, hplays, activeEntry_becomePlaying, hmarked]
      exact ⟨rfl, rfl, rfl⟩
    · have hone' : OneCue j .announcePlaying 0 (.paSource pa)
          (becomePlaying (updateActive (fun f => { f with clipStarted := true }) (decoderIdle s))) := hone.congr rfl
      rw [(reply_frame h _ _ _ _).seats, startPlaying, raise_one_paSource hone']

/-- Clip Start refused. -/
theorem clipStart_refused {h : MsgHead} {s : State} (ha : Addressed h s) {n : Nat} (hn : n ≤ 65535) :
    let answered (r : Result) (u : State) : Prop := exec (.clipStart h (payload [n])) s = .next (reply h 0x21#6 r [] u)
    let stale : Prop := answered .state (offerReport ⟨0x35#6, 0, [word n, 10]⟩ (decoderIdle s))
    (n = 0 ∨ 255 < n → answered .range (decoderIdle s)) ∧
    (1 ≤ n → n ≤ 255 →
      (activeEntry s = none → stale) ∧
      ∀ e : Entry, activeEntry s = some e →
        (e.ticket ≠ n ∨ e.state = .trailing → stale) ∧
        (e.ticket = n → e.state = .playing ∨ e.state = .cued ∧ e.clipStarted = true →
          answered .state (decoderIdle s))) := by
  intro answered stale
  have hjudge := judgeClipStart_eq (s.pins.profile == .strict) (by omega : n < 65536) (decoderIdle s)
  refine ⟨fun hout => ?range, fun hlow hhigh => ?inRange⟩
  case range =>
    have hrange : outside 1 255 n = true := (outside_iff 1 255 n).mpr (hout.imp_left Nat.lt_one_iff.mpr)
    exact exec_clipStart ha (hjudge.trans (if_pos hrange))
  case inRange =>
    have hin : ¬outside 1 255 n = true := by rw [outside_iff]; omega
    have hstale (hnone : ∀ e, activeEntry s = some e → e.ticket ≠ n ∨ e.state = .trailing) : stale :=
      exec_clipStart ha (hjudge.trans ((if_neg hin).trans (clipStartOutcome_stale (s := decoderIdle s) hnone)))
    refine ⟨fun hnone => hstale fun e he => absurd (hnone.symm.trans he) (fun h => nomatch h),
      fun e he => ⟨fun hwrong => ?_, fun hticket hagain => ?_⟩⟩
    · refine hstale fun e' he' => ?_
      obtain rfl := Option.some.inj (he.symm.trans he')
      exact hwrong
    · subst hticket
      exact exec_clipStart ha (hjudge.trans ((if_neg hin).trans (clipStartOutcome_again (s := decoderIdle s) he hagain)))

/-! ## The queue without WAITING entries, and an abort in it -/

/-- The active entries changed, told by their state. -/
theorem map_active_eq (g : Entry → Entry) (q : List Entry) :
    (q.map fun f => if isActive f then g f else f) = q.map fun f => if f.state = .waiting then f else g f := by
  refine List.map_congr_left fun f _ => ?_
  by_cases hf : f.state = .waiting
  · rw [if_pos hf, if_neg (by rw [(isActive_eq_false_iff f).mpr hf]; decide)]
  · rw [if_neg hf, if_pos (by rw [← Bool.not_eq_false, isActive_eq_false_iff]; exact hf)]

theorem isActive_iff (e : Entry) : isActive e = true ↔ e.state ≠ .waiting := by
  rw [← Bool.not_eq_false, isActive_eq_false_iff]

/-- Removing WAITING entries leaves the active entry. -/
theorem activeEntry_removeWaiting (p : Entry → Bool) (s : State) : activeEntry (removeWaiting p s) = activeEntry s := by
  change (s.ann.queue.filter fun e => !(isWaiting e && p e)).find? isActive = s.ann.queue.find? isActive
  rw [List.find?_filter]
  congr 1
  funext e
  rw [isWaiting_eq_not_isActive]
  cases isActive e <;> simp

/-- Nothing to remove. -/
theorem removeWaiting_none {p : Entry → Bool} {s : State} (h : ∀ e ∈ s.ann.queue, e.state = .waiting → p e = false) :
    removeWaiting p s = s := by
  have hall : (s.ann.queue.filter fun e => !(isWaiting e && p e)) = s.ann.queue := by
    refine List.filter_eq_self.mpr fun e he => ?_
    cases hw : isWaiting e with
    | false => rfl
    | true => rw [h e he (by simpa [isWaiting] using hw)]; rfl
  rw [removeWaiting, hall]
  rfl

/-- The one WAITING entry of a key removed from its place. -/
theorem removeWaiting_key {q1 q2 : List Entry} {v : Entry} {s : State} (hsound : QueueOk s.ann.queue)
    (hqueue : s.ann.queue = q1 ++ v :: q2) (hv : v.state = .waiting) :
    removeWaiting (hasKey v.kind v.subject) s = setQueue (q1 ++ q2) s := by
  have hnodup := hsound.2.2.1
  rw [hqueue, List.map_append, List.map_cons, List.nodup_middle, List.nodup_cons, List.mem_append, not_or] at hnodup
  obtain ⟨⟨h1, h2⟩, -⟩ := hnodup
  have hkeeps {q : List Entry} (hq : entryKey v ∉ q.map entryKey) :
      (q.filter fun e => !(isWaiting e && hasKey v.kind v.subject e)) = q := by
    refine List.filter_eq_self.mpr fun e he => ?_
    have hother : hasKey v.kind v.subject e = false := by
      rw [Bool.eq_false_iff, ne_eq, hasKey_iff]
      exact fun hkey => hq (List.mem_map.mpr ⟨e, he, hkey⟩)
    rw [hother, Bool.and_false]
    rfl
  have hgone : (!(isWaiting v && hasKey v.kind v.subject v)) = false := by
    simp [isWaiting, hasKey, hv]
  rw [removeWaiting, hqueue, List.filter_append, List.filter_cons, if_neg (by rw [hgone]; decide), hkeeps h1, hkeeps h2]

/-- Two entries of one key in a sound queue are one. -/
theorem QueueOk.eq_of_key {q : List Entry} (h : QueueOk q) {e f : Entry} (he : e ∈ q) (hf : f ∈ q)
    (hkey : hasKey f.kind f.subject e = true) : e = f :=
  List.inj_on_of_nodup_map h.2.2.1 he hf ((hasKey_iff _ _ _).mp hkey)

/-- The active one of a sound queue is the only one. -/
theorem QueueOk.activeEntry_eq {s : State} (h : QueueOk s.ann.queue) {f : Entry} (hf : f ∈ s.ann.queue)
    (hstate : f.state ≠ .waiting) : activeEntry s = some f := by
  obtain ⟨-, hone, -, -⟩ := h
  have hmem : f ∈ s.ann.queue.filter isActive := List.mem_filter.mpr ⟨hf, (isActive_iff f).mpr hstate⟩
  obtain ⟨a, hlist⟩ : ∃ a, s.ann.queue.filter isActive = [a] :=
    List.length_eq_one_iff.mp (Nat.le_antisymm hone (List.length_pos_of_mem hmem))
  rw [hlist, List.mem_singleton] at hmem
  rw [activeEntry, ← List.head?_filter, hlist, hmem]
  rfl

/-! ## Cancel (R151) -/

theorem inHand_of_active {s : State} {e : Entry} (h : activeEntry s = some e) (hstate : e.state ≠ .trailing) :
    inHand e = true := by
  have hactive := (isActive_iff e).mp (activeEntry_mem h).2
  rw [inHand_iff]
  cases hs : e.state with
  | waiting => exact absurd hs hactive
  | cued => exact .inl rfl
  | playing => exact .inr rfl
  | trailing => exact absurd hs hstate

/-- No CUED or PLAYING entry that Cancel matches: it stands. -/
theorem cancelActive_none {p : Entry → Bool} {s : State}
    (h : ∀ e, activeEntry s = some e → p e = true → e.state = .trailing) : cancelActive p s = s := by
  unfold cancelActive
  split
  next hany =>
    obtain ⟨e, he, hp⟩ := (Option.any_eq_true _ _).mp hany
    have hnot : ¬inHand e = true := by rw [inHand_iff, h e he hp]; decide
    rw [abortActive, he]
    exact if_neg hnot
  next => rfl

theorem cancelActive_aborts {p : Entry → Bool} {s : State} {e : Entry} (h : activeEntry s = some e) (hp : p e = true)
    (hstate : e.state ≠ .trailing) :
    cancelActive p s = toTrailing .cancelled (offerReport (abortReport e.ticket .cancelled) s) := by
  have hany : (activeEntry s).any p = true := by rw [h]; exact hp
  rw [cancelActive, if_pos hany, abortActive_hand h (inHand_of_active h hstate)]

section Cancel

variable {h : MsgHead} {s : State} (ha : Addressed h s)
include ha

theorem exec_cancel {p : List Word} (hp : p.length = 3) (hrange : cancelRangeBad p = false) :
    message .cancel h p s = .next (tryCue (reply h 0x23#6 .accepted [] (cancelAction p (decoderIdle s)))) := by
  refine ha.message_completes (k := .cancel) rfl (by omega) (judged_pass ?_)
  simp [firstFailure_none_iff, lengthChecks, hp, hrange]

omit ha in
/-- Cancel aborts the active entry: what stands after its Reply, with no cue since an entry is active. -/
theorem cancel_aborts {c : Instr} {e : Entry} {q : List Entry} {u : State}
    (hexec : exec c s = .next (tryCue (reply h 0x23#6 .accepted [] u)))
    (hactive : activeEntry u = some { e with state := .trailing, reason := some .cancelled })
    (hchime : u.ann.chime = none)
    (hqueue : u.ann.queue = q.map fun f =>
      if f.state = .waiting then f else { f with state := .trailing, reason := some .cancelled })
    (hreports : u.reports = (offerReport ⟨0x35#6, 0, [word e.ticket, 7]⟩ s).reports) :
    ∃ t, exec c s = .next t ∧
      activeEntry t = some { e with state := .trailing, reason := some .cancelled } ∧ t.ann.chime = none ∧
      t.ann.queue = (q.map fun f =>
        if f.state = .waiting then f else { f with state := .trailing, reason := some .cancelled }) ∧
      t.reports = (reply h 0x23#6 .accepted [] (offerReport ⟨0x35#6, 0, [word e.ticket, 7]⟩ s)).reports := by
  have hstays : activeEntry (reply h 0x23#6 .accepted [] u) = _ := (activeEntry_reply h _ _ _ u).trans hactive
  rw [tryCue_none (cueable_active hstays)] at hexec
  refine ⟨_, hexec, hstays, ?_, ?_, reply_reports_congr h _ _ _ hreports⟩
  · rw [reply_ann, hchime]
  · rw [reply_ann, hqueue]

end Cancel

/-- The state of an abort CANCELLED, and of what Cancel removes besides. -/
def cancelled (e : Entry) (s : State) : State :=
  toTrailing .cancelled (offerReport (abortReport e.ticket .cancelled) (decoderIdle s))

section Cancelled

variable {s : State} {e : Entry}

theorem cancelled_active (h : activeEntry s = some e) :
    activeEntry (cancelled e s) = some { e with state := .trailing, reason := some .cancelled } := by
  have hsame : activeEntry (offerReport (abortReport e.ticket .cancelled) (decoderIdle s)) = activeEntry s :=
    activeEntry_congr (congrArg Announcer.queue (offerReport_ann _ (decoderIdle s)))
  rw [cancelled, activeEntry_toTrailing, hsame, h]
  rfl

theorem cancelled_queue (e : Entry) (s : State) : (cancelled e s).ann.queue = s.ann.queue.map fun f =>
    if f.state = .waiting then f else { f with state := .trailing, reason := some .cancelled } := by
  rw [← map_active_eq (fun f => { f with state := .trailing, reason := some .cancelled })]
  change ((offerReport (abortReport e.ticket .cancelled) (decoderIdle s)).ann.queue.map _) = _
  rw [offerReport_ann]
  rfl

theorem cancelled_reports (e : Entry) (s : State) :
    (cancelled e s).reports = (offerReport ⟨0x35#6, 0, [word e.ticket, 7]⟩ s).reports :=
  offerReport_reports_congr (abortReport e.ticket .cancelled) (s := decoderIdle s) (t := s) rfl

end Cancelled

theorem entryKindOf_code (k : EntryKind) : entryKindOf (entryKindCode k) = k := by cases k <;> rfl

/-- What a Cancel that aborts `e` leaves of a queue of which the entries `q` stay (R151). -/
def CancelAborts (h : MsgHead) (s : State) (c : Instr) (e : Entry) (q : List Entry) : Prop := ∃ t, exec c s = .next t ∧
  activeEntry t = some { e with state := .trailing, reason := some .cancelled } ∧ t.ann.chime = none ∧
  t.ann.queue = (q.map fun f =>
    if f.state = .waiting then f else { f with state := .trailing, reason := some .cancelled }) ∧
  t.reports = (reply h 0x23#6 .accepted [] (offerReport ⟨0x35#6, 0, [word e.ticket, 7]⟩ s)).reports

section Modes

variable {h : MsgHead} {s : State} (ha : Addressed h s)
include ha

/-- Cancel by TICKET matches the active entry. -/
theorem exec_cancelTicket {n : Nat} (x : Word) (hlow : 1 ≤ n) (hhigh : n ≤ 255) :
    ((∀ e, activeEntry s = some e → e.ticket = n → e.state = .trailing) →
      exec (.cancelTicket h [word n, x]) s = .next (tryCue (reply h 0x23#6 .accepted [] (decoderIdle s)))) ∧
    ∀ e, activeEntry s = some e → e.state ≠ .trailing → e.ticket = n →
      CancelAborts h s (.cancelTicket h [word n, x]) e s.ann.queue := by
  have hword : argN [0#16, word n, x] 2 = n := word_toNat (by omega)
  have hrange : cancelRangeBad [0#16, word n, x] = false := by
    change outside 1 255 (argN [0#16, word n, x] 2) = false
    rw [hword, not_outside hlow hhigh]
  have haction : cancelAction [0#16, word n, x] (decoderIdle s) = cancelActive (fun e => e.ticket == n) (decoderIdle s) := by
    change cancelActive (fun e => e.ticket == argN [0#16, word n, x] 2) (decoderIdle s) = _
    rw [hword]
  have hexec : exec (.cancelTicket h [word n, x]) s = _ := exec_cancel ha (p := [0#16, word n, x]) rfl hrange
  rw [haction] at hexec
  refine ⟨fun hnone => ?_, fun e he hstate hticket => ?_⟩
  · rwa [cancelActive_none (s := decoderIdle s) fun e he hp => hnone e he (beq_iff_eq.mp hp)] at hexec
  · rw [cancelActive_aborts (p := fun e => e.ticket == n) (s := decoderIdle s) he (beq_iff_eq.mpr hticket) hstate] at hexec
    exact cancel_aborts hexec (cancelled_active he) rfl (cancelled_queue e s) (cancelled_reports e s)

/-- Cancel by ENTRY matches the entry of a kind and subject. -/
theorem exec_cancelEntry {kind : EntryKind} {n : Nat} (hlow : 1 ≤ n) (hhigh : n ≤ (if kind = .general then 255 else 999)) :
    exec (.cancelEntry h (payload [entryKindCode kind, n])) s = .next (tryCue (reply h 0x23#6 .accepted []
      (removeWaiting (hasKey kind n) (cancelActive (hasKey kind n) (decoderIdle s))))) := by
  have hcode : entryKindCode kind ≤ 2 := by cases kind <;> decide
  have htop : (if entryKindCode kind = 2 then 255 else 999) = if kind = .general then 255 else 999 := by
    cases kind <;> rfl
  have hn : n ≤ 999 := hhigh.trans (by split <;> omega)
  have hkind : argN (1#16 :: payload [entryKindCode kind, n]) 2 = entryKindCode kind := word_toNat (by omega)
  have hsubject : argN (1#16 :: payload [entryKindCode kind, n]) 3 = n := word_toNat (by omega)
  have hrange : cancelRangeBad (1#16 :: payload [entryKindCode kind, n]) = false := by
    change (outside 0 2 (argN (1#16 :: payload [entryKindCode kind, n]) 2) ||
      outside 1 (if argN (1#16 :: payload [entryKindCode kind, n]) 2 = 2 then 255 else 999)
        (argN (1#16 :: payload [entryKindCode kind, n]) 3)) = false
    rw [hkind, hsubject, htop, not_outside (Nat.zero_le _) hcode, not_outside hlow hhigh]
    rfl
  have haction : cancelAction (1#16 :: payload [entryKindCode kind, n]) (decoderIdle s) =
      removeWaiting (hasKey kind n) (cancelActive (hasKey kind n) (decoderIdle s)) := by
    change removeWaiting (hasKey (entryKindOf (argN (1#16 :: payload [entryKindCode kind, n]) 2)) _)
      (cancelActive (hasKey (entryKindOf (argN (1#16 :: payload [entryKindCode kind, n]) 2)) _) _) = _
    rw [hkind, hsubject, entryKindOf_code]
  have hexec := exec_cancel ha (p := 1#16 :: payload [entryKindCode kind, n]) rfl hrange
  rw [haction] at hexec
  exact hexec

theorem cancelEntry_none {kind : EntryKind} {n : Nat} (hlow : 1 ≤ n) (hhigh : n ≤ (if kind = .general then 255 else 999))
    (hnone : ∀ f ∈ s.ann.queue, ¬(f.kind = kind ∧ f.subject = n)) :
    exec (.cancelEntry h (payload [entryKindCode kind, n])) s =
      .next (tryCue (reply h 0x23#6 .accepted [] (decoderIdle s))) := by
  have hno : ∀ f ∈ s.ann.queue, hasKey kind n f = false := fun f hf => by
    rw [Bool.eq_false_iff, ne_eq, hasKey_iff]
    exact fun hkey => hnone f hf (Prod.mk.inj hkey)
  rw [exec_cancelEntry ha hlow hhigh, cancelActive_none (s := decoderIdle s) fun e he hp =>
      absurd hp (by rw [hno e (activeEntry_mem he).1]; decide),
    removeWaiting_none (s := decoderIdle s) fun e he _ => hno e he]

theorem cancelEntry_one {kind : EntryKind} {n : Nat} (hlow : 1 ≤ n) (hhigh : n ≤ (if kind = .general then 255 else 999))
    {q1 q2 : List Entry} {f : Entry} (hsound : QueueSound s) (hqueue : s.ann.queue = q1 ++ f :: q2) (hkind : f.kind = kind)
    (hsubject : f.subject = n) :
    (f.state = .waiting → exec (.cancelEntry h (payload [entryKindCode kind, n])) s =
      .next (tryCue (reply h 0x23#6 .accepted [] (setQueue (q1 ++ q2) (decoderIdle s))))) ∧
    (f.state = .trailing → exec (.cancelEntry h (payload [entryKindCode kind, n])) s =
      .next (tryCue (reply h 0x23#6 .accepted [] (decoderIdle s)))) ∧
    (f.state = .cued ∨ f.state = .playing →
      CancelAborts h s (.cancelEntry h (payload [entryKindCode kind, n])) f s.ann.queue) := by
  subst hkind hsubject
  have hok : QueueOk s.ann.queue := (queueSound_iff s).mp hsound
  have hf : f ∈ s.ann.queue := by rw [hqueue]; exact List.mem_append_right _ List.mem_cons_self
  have hexec := exec_cancelEntry ha hlow hhigh
  refine ⟨fun hstate => ?waiting, fun hstate => ?trailing, fun hstate => ?hand⟩
  case waiting =>
    have hstands : cancelActive (hasKey f.kind f.subject) (decoderIdle s) = decoderIdle s :=
      cancelActive_none fun e he hp => by
        obtain rfl := hok.eq_of_key (activeEntry_mem he).1 hf hp
        exact absurd hstate ((isActive_iff e).mp (activeEntry_mem he).2)
    rwa [hstands, removeWaiting_key (s := decoderIdle s) hok hqueue hstate] at hexec
  case trailing =>
    have hstands : cancelActive (hasKey f.kind f.subject) (decoderIdle s) = decoderIdle s :=
      cancelActive_none fun e he hp => by
        obtain rfl := hok.eq_of_key (activeEntry_mem he).1 hf hp
        exact hstate
    have hnone : removeWaiting (hasKey f.kind f.subject) (decoderIdle s) = decoderIdle s :=
      removeWaiting_none fun e he hw => by
        rw [Bool.eq_false_iff]
        intro hp
        obtain rfl := hok.eq_of_key he hf hp
        exact absurd (hw.symm.trans hstate) (by decide)
    rwa [hstands, hnone] at hexec
  case hand =>
    have hnot : f.state ≠ .waiting ∧ f.state ≠ .trailing := by
      rcases hstate with h | h <;> rw [h] <;> decide
    have hactive : activeEntry s = some f := hok.activeEntry_eq hf hnot.1
    have habort : cancelActive (hasKey f.kind f.subject) (decoderIdle s) = cancelled f s :=
      cancelActive_aborts (s := decoderIdle s) hactive (by simp [hasKey]) hnot.2
    have hnone : removeWaiting (hasKey f.kind f.subject) (cancelled f s) = cancelled f s :=
      removeWaiting_none fun e he hw => by
        rw [cancelled_queue, List.mem_map] at he
        obtain ⟨g, hg, rfl⟩ := he
        by_cases hgw : g.state = .waiting
        · rw [if_pos hgw, Bool.eq_false_iff]
          intro hp
          obtain rfl := hok.eq_of_key hg hf hp
          exact hnot.1 hgw
        · rw [if_neg hgw] at hw
          exact nomatch hw
    rw [habort, hnone] at hexec
    exact cancel_aborts hexec (cancelled_active hactive) rfl (cancelled_queue f s) (cancelled_reports f s)

/-- Cancel by ALL matches every entry. -/
theorem exec_cancelAll (x y : Word) :
    ((∀ e, activeEntry s = some e → e.state = .trailing) → exec (.cancelAll h [x, y]) s = .next (tryCue
      (reply h 0x23#6 .accepted [] (setQueue (s.ann.queue.filter fun f => f.state != .waiting) (decoderIdle s))))) ∧
    ∀ e, activeEntry s = some e → e.state ≠ .trailing →
      CancelAborts h s (.cancelAll h [x, y]) e (s.ann.queue.filter fun f => f.state != .waiting) := by
  have hexec : exec (.cancelAll h [x, y]) s = .next (tryCue (reply h 0x23#6 .accepted []
      (removeWaiting (fun _ => true) (cancelActive (fun _ => true) (decoderIdle s))))) :=
    exec_cancel ha (p := [2#16, x, y]) rfl rfl
  refine ⟨fun hnone => ?_, fun e he hstate => ?_⟩
  · rw [cancelActive_none (s := decoderIdle s) fun e he _ => hnone e he, removeWaiting_all] at hexec
    exact hexec
  · have habort : cancelActive (fun _ => true) (decoderIdle s) = cancelled e s :=
      cancelActive_aborts (s := decoderIdle s) he rfl hstate
    rw [habort] at hexec
    have hqueue : (removeWaiting (fun _ => true) (cancelled e s)).ann.queue =
        (s.ann.queue.filter fun f => f.state != .waiting).map fun f =>
          if f.state = .waiting then f else { f with state := .trailing, reason := some .cancelled } := by
      rw [cancelled, removeWaiting_toTrailing, offerReport_ann]
      refine List.map_congr_left fun f hf => ?_
      have hnot : f.state ≠ .waiting := bne_iff_ne.mp (List.mem_filter.mp hf).2
      exact (if_neg hnot).symm
    exact cancel_aborts hexec ((activeEntry_removeWaiting _ _).trans (cancelled_active he)) rfl hqueue
      (cancelled_reports e s)

end Modes

end Sys2Proof.Machine

/-! # Proofs: Announce (O48) -/

namespace Sys2Proof.Machine

set_option Elab.async false

/-! ## Offering an entry (R137 to R139, R149) -/

theorem offerReport_withAnn (r : Report) (a : Announcer) (s : State) :
    offerReport r (s.withAnn a) = (offerReport r s).withAnn a := by
  by_cases h : s.reports.queue.length < 16
  · rw [offerReport_room r h, offerReport_room (s := s.withAnn a) r h]; rfl
  · rw [offerReport_full r (Nat.le_of_not_lt h), offerReport_full (s := s.withAnn a) r (Nat.le_of_not_lt h)]; rfl

/-- The active entry of `s` is one that an urgent entry preempts: CUED or PLAYING and of lower priority, while health is OK
(R149). -/
def Preempts (priority : Nat) (a : Entry) (s : State) : Prop :=
  (a.state = .cued ∨ a.state = .playing) ∧ a.priority < 3 ∧ s.dog.health = .ok ∧ priority = 3

theorem preempts_iff (priority : Nat) (a : Entry) (s : State) :
    (priority == 3 && s.dog.health == .ok && decide (a.priority < 3) && inHand a) = true ↔ Preempts priority a s := by
  rw [Preempts, ← inHand_iff]
  simp only [Bool.and_eq_true, beq_iff_eq, decide_eq_true_eq]
  tauto

/-- An entry that preempts none joins, and no more. -/
theorem joinEntry_joins {e : Entry} {s : State} (h : ∀ a, activeEntry s = some a → ¬Preempts e.priority a s) :
    joinEntry e s = (setQueue (insertEntry e s.ann.queue) s, []) := by
  unfold joinEntry
  cases hactive : activeEntry s with
  | none => rfl
  | some a => exact if_neg (mt (preempts_iff _ _ _).mp (h a hactive))

theorem joinEntry_preempts {e a : Entry} {s : State} (hactive : activeEntry s = some a) (h : Preempts e.priority a s) :
    joinEntry e s = preempt a e (setQueue (insertEntry e s.ann.queue) s) := by
  unfold joinEntry
  rw [hactive]
  exact if_pos ((preempts_iff _ _ _).mpr h)

/-- The state in which the urgent entry is cued: the Abort, the queue with the preempted entry back in it or gone, the
chime stopped (R149). -/
def preempted (ticket : Nat) (q : List Entry) (s : State) : State :=
  (offerReport ⟨0x35#6, 0, [word ticket, 9]⟩ s).withAnn { s.ann with queue := q, chime := none }

/-- The queue in which the active entry waits again. -/
def allWaiting (q : List Entry) : List Entry := q.map fun f =>
  if f.state = .waiting then f else { waitingAgain f with notBefore := none }

theorem allWaiting_state {q : List Entry} {f : Entry} (hf : f ∈ allWaiting q) : f.state = .waiting := by
  obtain ⟨g, -, rfl⟩ := List.mem_map.mp hf
  by_cases hg : g.state = .waiting
  · rw [if_pos hg]; exact hg
  · rw [if_neg hg]; rfl

theorem removedAtReturn_congr {s t : State} (h : t.route = s.route) (e : Entry) :
    removedAtReturn t e = removedAtReturn s e := by
  unfold removedAtReturn
  rw [h]

/-- The Abort of the preempted entry, and its return to WAITING. -/
theorem updateActive_preempted (r : Report) (q : List Entry) (s : State) :
    updateActive preemptedEntry (offerReport r (setQueue q s)) =
      (offerReport r s).withAnn { s.ann with queue := allWaiting q } := by
  have hmap : (q.map fun f => if isActive f then preemptedEntry f else f) = allWaiting q := map_active_eq _ _
  have hjoined : offerReport r (setQueue q s) = (offerReport r s).withAnn { s.ann with queue := q } :=
    offerReport_withAnn _ _ _
  rw [hjoined, ← hmap]
  rfl

/-- The preempted entry removed where its stop does not let it wait again (R154). -/
theorem removeWaiting_returned (a : Entry) (q : List Entry) (s : State) :
    removeWaiting (hasKey a.kind a.subject) (s.withAnn { s.ann with queue := allWaiting q }) =
      s.withAnn { s.ann with queue := (allWaiting q).filter fun f => !(f.kind == a.kind && f.subject == a.subject) } := by
  have hfilter : ((allWaiting q).filter fun f => !(isWaiting f && hasKey a.kind a.subject f)) =
      (allWaiting q).filter fun f => !(f.kind == a.kind && f.subject == a.subject) := by
    refine List.filter_congr fun f hf => ?_
    rw [isWaiting, allWaiting_state hf]
    rfl
  rw [← hfilter]
  rfl

theorem preempt_eq (a e : Entry) (q : List Entry) (s : State) :
    preempt a e (setQueue q s) = cueEntry e (preempted a.ticket
      (if removedAtReturn s a = true then (allWaiting q).filter fun f => !(f.kind == a.kind && f.subject == a.subject)
        else allWaiting q) s) := by
  have hann : (offerReport (abortReport a.ticket .preempted) s).ann = s.ann := offerReport_ann _ s
  have hroute : (offerReport (abortReport a.ticket .preempted) s).route = s.route :=
    (offerReport_frame _ s).effects.routeKept
  unfold preempt
  dsimp only
  have hreturn (x : Announcer) :
      removedAtReturn ((offerReport (abortReport a.ticket .preempted) s).withAnn x) a = removedAtReturn s a :=
    removedAtReturn_congr hroute a
  rw [updateActive_preempted, ← hann, hreturn]
  by_cases hgoes : removedAtReturn s a = true
  · rw [if_pos hgoes, if_pos hgoes, removeWaiting_returned, State.withAnn_ann, hann]
    rfl
  · rw [if_neg hgoes, if_neg hgoes, State.withAnn_ann, hann]
    rfl

/-- An entry that no entry of the queue repeats is offered to a queue with room. -/
theorem offerEntry_room {e : Entry} {s : State} (hnew : s.ann.queue.any (hasKey e.kind e.subject) = false)
    (hroom : s.ann.queue.length < 6) : offerEntry e s = joinEntry e s :=
  (if_neg (by rw [hnew]; decide)).trans (if_pos hroom)

theorem offerEntry_evicts {e v : Entry} {s : State} (hnew : s.ann.queue.any (hasKey e.kind e.subject) = false)
    (hfull : ¬s.ann.queue.length < 6) (hv : evictee e.priority s.ann.queue = some v) :
    offerEntry e s = joinEntry e (removeWaiting (hasKey v.kind v.subject) (offerReport (droppedReport v) s)) := by
  refine (if_neg (by rw [hnew]; decide)).trans ((if_neg hfull).trans ?_)
  rw [hv]

theorem offerEntry_dropped {e : Entry} {s : State} (hnew : s.ann.queue.any (hasKey e.kind e.subject) = false)
    (hfull : ¬s.ann.queue.length < 6) (hv : evictee e.priority s.ann.queue = none) :
    offerEntry e s = (offerReport (droppedReport e) s, []) := by
  refine (if_neg (by rw [hnew]; decide)).trans ((if_neg hfull).trans ?_)
  rw [hv]

/-! ### The entry that an offer evicts (R139) -/

/-- The last WAITING entry of the lowest priority. -/
theorem lowestWaiting_eq {q1 q2 : List Entry} {v : Entry} (hv : v.state = .waiting)
    (h1 : ∀ f ∈ q1, f.state = .waiting → v.priority ≤ f.priority)
    (h2 : ∀ f ∈ q2, f.state = .waiting → v.priority < f.priority) : lowestWaiting (q1 ++ v :: q2) = some v.priority := by
  have hmem : v ∈ (q1 ++ v :: q2).filter isWaiting :=
    List.mem_filter.mpr ⟨List.mem_append_right _ List.mem_cons_self, by simp [isWaiting, hv]⟩
  refine List.min?_eq_some_iff.mpr ⟨List.mem_map_of_mem hmem, fun n hn => ?_⟩
  obtain ⟨f, hf, rfl⟩ := List.mem_map.mp hn
  obtain ⟨hfq, hfw⟩ := List.mem_filter.mp hf
  have hfw' : f.state = .waiting := by simpa [isWaiting] using hfw
  rcases List.mem_append.mp hfq with hf1 | hf2
  · exact h1 f hf1 hfw'
  · rcases List.mem_cons.mp hf2 with rfl | hf2
    · exact Nat.le_refl _
    · exact Nat.le_of_lt (h2 f hf2 hfw')

theorem evictee_eq {q1 q2 : List Entry} {v : Entry} {p : Nat} (hv : v.state = .waiting) (hp : v.priority < p)
    (h1 : ∀ f ∈ q1, f.state = .waiting → v.priority ≤ f.priority)
    (h2 : ∀ f ∈ q2, f.state = .waiting → v.priority < f.priority) : evictee p (q1 ++ v :: q2) = some v := by
  have hback : (q2.filter fun e => isWaiting e && e.priority == v.priority) = [] := by
    refine List.filter_eq_nil_iff.mpr fun f hf => ?_
    rw [Bool.and_eq_true, beq_iff_eq]
    rintro ⟨hw, hpriority⟩
    have hlt := h2 f hf (by simpa [isWaiting] using hw)
    omega
  have hself : (isWaiting v && v.priority == v.priority) = true := by simp [isWaiting, hv]
  rw [evictee, lowestWaiting_eq hv h1 h2]
  dsimp only
  rw [if_pos hp, List.filter_append, List.filter_cons, if_pos hself, hback, List.getLast?_append]
  rfl

theorem evictee_none {q : List Entry} {p : Nat} (h : ∀ f ∈ q, f.state = .waiting → p ≤ f.priority) :
    evictee p q = none := by
  rw [evictee]
  cases hlow : lowestWaiting q with
  | none => rfl
  | some m =>
    obtain ⟨hm, -⟩ := List.min?_eq_some_iff.mp hlow
    obtain ⟨f, hf, rfl⟩ := List.mem_map.mp hm
    obtain ⟨hfq, hfw⟩ := List.mem_filter.mp hf
    exact if_neg (Nat.not_lt.mpr (h f hfq (by simpa [isWaiting] using hfw)))

/-! ## Announce (R159) -/

section Announce

variable {h : MsgHead} {s : State} (ha : Addressed h s) {phrase priority count : Nat} {policy : RepeatPolicy}
  (hphrase : 1 ≤ phrase) (hphrase' : phrase ≤ 255) (hpriority : priority ≤ 3) (hcount : count ≤ 7)

include hphrase hphrase' hpriority hcount in
theorem judgeAnnounce_eq (strict : Bool) (s : State) :
    judgeKind .announce strict (payload [phrase, priority, policyCode policy, count]) s =
      if s.ann.queue.any (hasKey .general phrase) = true then refuse .duplicate s
      else ⟨.accepted, [], offer (offered .general phrase priority policy count s.now) s⟩ := by
  have hcode : policyCode policy ≤ 3 := by cases policy <;> decide
  have h1 : argN (payload [phrase, priority, policyCode policy, count]) 1 = phrase := argN_payload_at rfl (by omega)
  have h2 : argN (payload [phrase, priority, policyCode policy, count]) 2 = priority := argN_payload_at rfl (by omega)
  have h3 : argN (payload [phrase, priority, policyCode policy, count]) 3 = policyCode policy :=
    argN_payload_at rfl (by omega)
  have h4 : argN (payload [phrase, priority, policyCode policy, count]) 4 = count := argN_payload_at rfl (by omega)
  change judgeAnnounce strict _ s = _
  rw [judgeAnnounce, h1, h2, h3, h4, policyOf_code, not_outside hphrase hphrase', not_outside (Nat.zero_le _) hpriority,
    not_outside (Nat.zero_le _) hcode, not_outside (Nat.zero_le _) hcount]
  cases s.ann.queue.any (hasKey .general phrase) <;> cases strict <;> rfl

end Announce

/-- A cue leaves an entry active. -/
theorem cueEntry_active {e : Entry} {s : State} (he : e ∈ s.ann.queue) : ∃ f, activeEntry (cueEntry e s).1 = some f := by
  have hstarted : ∃ f, activeEntry (cueStarted e s) = some f := by
    have hkey : hasKey e.kind e.subject e = true := by simp [hasKey]
    refine Option.isSome_iff_exists.mp (List.find?_isSome.mpr ?_)
    rw [cueStarted_ann]
    exact ⟨_, List.mem_map_of_mem he, by rw [if_pos hkey]; rfl⟩
  by_cases hmute : cueMute e s
  · obtain ⟨f, hf⟩ := hstarted
    rw [cueEntry_mute hmute, activeEntry_toTrailing, hf]
    exact ⟨_, rfl⟩
  · rwa [cueEntry_speaking hmute]

/-- An urgent entry that preempts: the Abort, the queue as R154 lets it be, and its cue, which no scan follows. -/
theorem raiseAll_preempt {e a : Entry} {q : List Entry} {s : State} (hquiet : QuietCues s) :
    raiseAll (preempt a e (setQueue q s)) = (cueEntry e (preempted a.ticket
      (if removedAtReturn s a = true then (allWaiting q).filter fun f => !(f.kind == a.kind && f.subject == a.subject)
        else allWaiting q) s)).1 := by
  have hcues (x : List Entry) : QuietCues (cueEntry e (preempted a.ticket x s)).1 := by
    refine hquiet.congr ((cueEntry_frame e _).effects.cues.trans ?_)
    exact (offerReport_frame _ s).effects.cues
  rw [preempt_eq, raiseAll_cueEntry, raise_quiet (hcues _)]

/-- The new entry stands in the queue that preemption leaves. -/
theorem new_stays {e a : Entry} {q : List Entry} (he : e ∈ q) (hw : e.state = .waiting)
    (hother : ¬(e.kind = a.kind ∧ e.subject = a.subject)) (b : Bool) :
    e ∈ (if b = true then (allWaiting q).filter fun f => !(f.kind == a.kind && f.subject == a.subject) else allWaiting q) := by
  have hmem : e ∈ allWaiting q := List.mem_map.mpr ⟨e, he, if_pos hw⟩
  split
  · refine List.mem_filter.mpr ⟨hmem, ?_⟩
    rw [Bool.not_eq_true', Bool.eq_false_iff, ne_eq, Bool.and_eq_true, beq_iff_eq, beq_iff_eq]
    exact hother
  · exact hmem

section Joins

variable {h : MsgHead} {s u : State} {message : Instr} {phrase priority count : Nat} {policy : RepeatPolicy}

/-- What an Announce that joins the queue of `u` comes to: `u` is the state of the message, or the one without the evicted
entry (R137, R139, R149). -/
theorem announce_joins
    (hexec : exec message s = .next (tryCue (reply h 0x20#6 .accepted []
      (raiseAll (joinEntry (offered .general phrase priority policy count s.now) u)))))
    (hnew : ∀ e ∈ s.ann.queue, ¬(e.kind = .general ∧ e.subject = phrase)) (hpriority : priority ≤ 3)
    (hactive : activeEntry u = activeEntry s) (hdog : u.dog = s.dog) (hroute : u.route = s.route) (hcues : u.cues = s.cues) :
    let new := offered .general phrase priority policy count s.now
    ((∀ a, activeEntry s = some a → (a.state = .cued ∨ a.state = .playing) → a.priority < 3 → s.dog.health = .ok →
        priority < 3) →
      exec message s = .next (tryCue (reply h 0x20#6 .accepted [] (setQueue (insertEntry new u.ann.queue) u)))) ∧
    ∀ a, activeEntry s = some a → (a.state = .cued ∨ a.state = .playing) → a.priority < 3 → s.dog.health = .ok →
      priority = 3 → QuietCues s →
      let queue := (insertEntry new u.ann.queue).map fun f =>
        if f.state = .waiting then f else { waitingAgain f with notBefore := none }
      let preempts (q : List Entry) : Prop := exec message s = .next (reply h 0x20#6 .accepted []
        (cueEntry new ((offerReport ⟨0x35#6, 0, [word a.ticket, 9]⟩ u).withAnn
          { u.ann with queue := q, chime := none })).1)
      (MayReturn s.route a → preempts queue) ∧
      (¬MayReturn s.route a → preempts (queue.filter fun f => !(f.kind == a.kind && f.subject == a.subject))) := by
  intro new
  refine ⟨fun hnone => ?joins, fun a ha hhand hlow hok hurgent hquiet => ?preempts⟩
  case joins =>
    have hno : ∀ a, activeEntry u = some a → ¬Preempts new.priority a u := fun a ha hp => by
      obtain ⟨hhand, hlow, hok, hurgent⟩ := hp
      have hlt := hnone a (hactive.symm.trans ha) hhand hlow (by rwa [hdog] at hok)
      have hthree : priority = 3 := hurgent
      omega
    rw [joinEntry_joins hno] at hexec
    exact hexec
  case preempts =>
    intro queue preempts
    have hp : Preempts new.priority a u := ⟨hhand, hlow, by rw [hdog]; exact hok, hurgent⟩
    rw [joinEntry_preempts (hactive.trans ha) hp, raiseAll_preempt (hquiet.congr hcues)] at hexec
    have hstays := new_stays (a := a) (q := insertEntry new u.ann.queue) (mem_insertEntry.mpr (.inl rfl)) rfl
      (fun hsame => hnew a (activeEntry_mem ha).1 ⟨hsame.1.symm, hsame.2.symm⟩) (removedAtReturn u a)
    have hnocue {q : List Entry} (hq : new ∈ q) :
        tryCue (reply h 0x20#6 .accepted [] (cueEntry new (preempted a.ticket q u)).1) =
          reply h 0x20#6 .accepted [] (cueEntry new (preempted a.ticket q u)).1 := by
      obtain ⟨f, hf⟩ := cueEntry_active (s := preempted a.ticket q u) hq
      exact tryCue_none (cueable_active ((activeEntry_reply _ _ _ _ _).trans hf))
    rw [hnocue hstays, removedAtReturn_congr hroute] at hexec
    refine ⟨fun hreturns => ?_, fun hgone => ?_⟩
    · rw [(removedAtReturn_iff s a).mpr hreturns, if_neg Bool.false_ne_true] at hexec
      exact hexec
    · have hremoved : removedAtReturn s a = true := by
        rw [← Bool.not_eq_false, removedAtReturn_iff]; exact hgone
      rw [hremoved, if_pos rfl] at hexec
      exact hexec

end Joins

section Settled

variable {h : MsgHead} {s : State} (ha : Addressed h s) {phrase priority count : Nat} {policy : RepeatPolicy}
  (hphrase : 1 ≤ phrase) (hphrase' : phrase ≤ 255) (hpriority : priority ≤ 3) (hcount : count ≤ 7)
include ha hphrase hphrase' hpriority hcount

theorem announce_repeated (hrepeated : ∃ e ∈ s.ann.queue, e.kind = .general ∧ e.subject = phrase) :
    exec (.announce h (payload [phrase, priority, policyCode policy, count])) s =
      .next (reply h 0x20#6 .duplicate [] (decoderIdle s)) := by
  obtain ⟨e, he, hkind, hsubject⟩ := hrepeated
  have hany : s.ann.queue.any (hasKey .general phrase) = true :=
    List.any_eq_true.mpr ⟨e, he, by simp [hasKey, hkind, hsubject]⟩
  exact ha.message_refuses (k := .announce) (p := payload [phrase, priority, policyCode policy, count])
    (by decide : 4 ≤ 64) (by decide)
    ((judgeAnnounce_eq hphrase hphrase' hpriority hcount _ (decoderIdle s)).trans (if_pos hany))

theorem announce_offers (hnew : s.ann.queue.any (hasKey .general phrase) = false) :
    exec (.announce h (payload [phrase, priority, policyCode policy, count])) s =
      .next (tryCue (reply h 0x20#6 .accepted []
        (raiseAll (offerEntry (offered .general phrase priority policy count s.now) (decoderIdle s))))) :=
  ha.message_completes (k := .announce) (p := payload [phrase, priority, policyCode policy, count]) rfl
    (by decide : 4 ≤ 64)
    ((judgeAnnounce_eq hphrase hphrase' hpriority hcount _ (decoderIdle s)).trans
      (if_neg (by rw [show (decoderIdle s).ann.queue = s.ann.queue from rfl, hnew]; decide)))

/-- A queue with room (R137). -/
theorem announce_room (hnew : s.ann.queue.any (hasKey .general phrase) = false) (hroom : s.ann.queue.length < 6) :
    exec (.announce h (payload [phrase, priority, policyCode policy, count])) s =
      .next (tryCue (reply h 0x20#6 .accepted []
        (raiseAll (joinEntry (offered .general phrase priority policy count s.now) (decoderIdle s))))) := by
  have hoffer := offerEntry_room (e := offered .general phrase priority policy count s.now) (s := decoderIdle s) hnew hroom
  rw [← hoffer]
  exact announce_offers ha hphrase hphrase' hpriority hcount hnew

/-- A full queue in which no WAITING entry has lower priority (R139). -/
theorem announce_dropped (hnew : s.ann.queue.any (hasKey .general phrase) = false) (hfull : 6 ≤ s.ann.queue.length)
    (hnone : ∀ f ∈ s.ann.queue, f.state = .waiting → priority ≤ f.priority) :
    exec (.announce h (payload [phrase, priority, policyCode policy, count])) s =
      .next (tryCue (reply h 0x20#6 .accepted [] (offerReport ⟨0x37#6, 0, [2, word phrase]⟩ (decoderIdle s)))) := by
  have hoffer := offerEntry_dropped (e := offered .general phrase priority policy count s.now) (s := decoderIdle s) hnew
    (Nat.not_lt.mpr hfull) (evictee_none hnone)
  have hexec := announce_offers ha hphrase hphrase' hpriority hcount (policy := policy) hnew
  rw [hoffer] at hexec
  exact hexec

/-- A full queue from which a WAITING entry of lower priority is evicted (R139). -/
theorem announce_evicts (hnew : s.ann.queue.any (hasKey .general phrase) = false) (hsound : QueueSound s)
    {q1 q2 : List Entry} {v : Entry} (hqueue : s.ann.queue = q1 ++ v :: q2) (hfull : s.ann.queue.length = 6)
    (hv : v.state = .waiting) (hlower : v.priority < priority)
    (h1 : ∀ f ∈ q1, f.state = .waiting → v.priority ≤ f.priority)
    (h2 : ∀ f ∈ q2, f.state = .waiting → v.priority < f.priority) :
    let u := setQueue (q1 ++ q2) (offerReport ⟨0x37#6, 0, [word (entryKindCode v.kind), word v.subject]⟩ (decoderIdle s))
    exec (.announce h (payload [phrase, priority, policyCode policy, count])) s =
      .next (tryCue (reply h 0x20#6 .accepted []
        (raiseAll (joinEntry (offered .general phrase priority policy count s.now) u)))) ∧
    TouchesAnn (decoderIdle s) u ∧ activeEntry u = activeEntry s := by
  intro u
  have hreported : (offerReport (droppedReport v) (decoderIdle s)).ann = s.ann := offerReport_ann _ (decoderIdle s)
  have hremoved : removeWaiting (hasKey v.kind v.subject) (offerReport (droppedReport v) (decoderIdle s)) = u :=
    removeWaiting_key (by rw [hreported]; exact (queueSound_iff s).mp hsound) (by rw [hreported]; exact hqueue) hv
  have hevicts : evictee priority (decoderIdle s).ann.queue = some v := by
    have hqueue' : (decoderIdle s).ann.queue = q1 ++ v :: q2 := hqueue
    rw [hqueue']
    exact evictee_eq hv hlower h1 h2
  have hoffer := offerEntry_evicts (e := offered .general phrase priority policy count s.now) (s := decoderIdle s) hnew
    (by rw [show (decoderIdle s).ann.queue = s.ann.queue from rfl, hfull]; decide) hevicts
  have hexec := announce_offers ha hphrase hphrase' hpriority hcount (policy := policy) hnew
  rw [hoffer, hremoved] at hexec
  refine ⟨hexec, ?_, ?_⟩
  · exact (offerReport_frame _ _).trans rfl
  · rw [← hremoved, activeEntry_removeWaiting]
    exact activeEntry_congr (congrArg Announcer.queue hreported)

end Settled

/-- Settles O48. -/
theorem announcementMessagesActOnTheQueue : Obligations.AnnouncementMessagesActOnTheQueue := by
  intro h s ha
  refine ⟨fun phrase priority count policy hphrase hphrase' hpriority hcount => ?announce, fun e he hlow hhigh => ?clipStart,
    fun n hn => clipStart_refused ha hn, fun n x hlow hhigh => exec_cancelTicket ha x hlow hhigh,
    fun kind n hlow hhigh => ?cancelEntry, fun x y => exec_cancelAll ha x y⟩
  case announce =>
    intro message new repeated joins
    have hnew (hnot : ¬repeated) : s.ann.queue.any (hasKey .general phrase) = false := by
      rw [List.any_eq_false]
      intro e he hkey
      exact hnot ⟨e, he, Prod.mk.inj ((hasKey_iff _ _ _).mp hkey)⟩
    have hother (hnot : ¬repeated) : ∀ e ∈ s.ann.queue, ¬(e.kind = .general ∧ e.subject = phrase) :=
      fun e he hsame => hnot ⟨e, he, hsame⟩
    refine ⟨announce_repeated ha hphrase hphrase' hpriority hcount,
      fun hnot hroom => announce_joins (announce_room ha hphrase hphrase' hpriority hcount (hnew hnot) hroom)
        (hother hnot) hpriority rfl rfl rfl rfl,
      fun hnot hsound q1 q2 v hqueue hfull hv hlower h1 h2 => ?_,
      fun hnot hfull hnone => announce_dropped ha hphrase hphrase' hpriority hcount (hnew hnot) hfull hnone⟩
    obtain ⟨hexec, htouches, hactive⟩ := announce_evicts ha hphrase hphrase' hpriority hcount (policy := policy) (hnew hnot)
      hsound hqueue hfull hv hlower h1 h2
    exact announce_joins hexec (hother hnot) hpriority hactive htouches.effects.dog htouches.effects.routeKept
      htouches.effects.cues
  case clipStart =>
    refine ⟨fun hstate hclip hchime => ?_, fun hstate hclip hchime hplan => ?_⟩
    · exact (clipStart_accepted ha he hlow hhigh hstate hclip).1 hchime
    · exact (clipStart_accepted ha he hlow hhigh hstate hclip).2 hchime hplan
  case cancelEntry =>
    exact ⟨cancelEntry_none ha hlow hhigh, fun q1 q2 f hsound hqueue hkind hsubject =>
      cancelEntry_one ha hlow hhigh hsound hqueue hkind hsubject⟩

end Sys2Proof.Machine

/-! # Proofs: scenes and the scan of the cue table (O51) -/

namespace Sys2Proof.Machine

set_option Elab.async false

/-! ## The cues that act in a scan (R184 to R187) -/

/-- Whether a trigger acts through a cue of the table, in the light that stands. -/
def actsThrough (t : Trigger) (u : CueUnit) (i : Fin 32) : Bool :=
  matchesCue t u.table[i] && conditionHolds u.ambient u.table[i]

/-- The cues through which a trigger acts, in index order. -/
def actingCues (t : Trigger) (s : State) : List (Fin 32) := (List.finRange 32).filter (actsThrough t s.cues)

/-- One cue's action in a scan, with the triggers it raises. -/
def actCue (table : Vector Cue 32) (acc : Raised) (i : Fin 32) : Raised :=
  ((doAction table[i].action acc.1).1, acc.2 ++ (doAction table[i].action acc.1).2)

/-- No action changes the cue table or the light, so a scan is the actions of the cues that act at its start. -/
theorem scanOnce_acting (t : Trigger) (s : State) :
    scanOnce t s = (actingCues t s).foldl (actCue s.cues.table) (s, []) := by
  have hfold : ∀ (l : List (Fin 32)) (acc : Raised), acc.1.cues = s.cues → l.foldl (scanCue t) acc =
      (l.filter (actsThrough t s.cues)).foldl (actCue s.cues.table) acc := by
    intro l
    induction l with
    | nil => exact fun _ _ => rfl
    | cons i l ih =>
      intro acc hcues
      have hkept := (scanCue_frame t acc i).cues.trans hcues
      by_cases hacts : actsThrough t s.cues i = true
      · have hstep : scanCue t acc i = actCue s.cues.table acc i := by
          unfold scanCue
          rw [hcues]
          exact if_pos hacts
        rw [List.foldl_cons, ih _ hkept, List.filter_cons_of_pos hacts, List.foldl_cons, hstep]
      · have hstep : scanCue t acc i = acc := by
          unfold scanCue
          rw [hcues]
          exact if_neg hacts
        rw [List.foldl_cons, ih _ hkept, List.filter_cons_of_neg hacts, hstep]
  exact hfold _ (s, []) rfl

theorem scanOnce_none {t : Trigger} {s : State} (h : actingCues t s = []) : scanOnce t s = (s, []) := by
  rw [scanOnce_acting, h]; rfl

theorem scanOnce_single {t : Trigger} {s : State} {j : Fin 32} (h : actingCues t s = [j]) :
    scanOnce t s = doAction s.cues.table[j].action s := by
  rw [scanOnce_acting, h]; rfl

theorem raise_none {t : Trigger} {s : State} (h : actingCues t s = []) : raise t s = s := by
  rw [raise, scanOnce_none h]; rfl

theorem raise_single {t : Trigger} {s : State} {j : Fin 32} (h : actingCues t s = [j]) : raise t s =
    (doAction s.cues.table[j].action s).2.foldl (fun s' t' => (scanOnce t' s').1) (doAction s.cues.table[j].action s).1 := by
  rw [raise, scanOnce_single h]

theorem actingCues_congr {t : Trigger} {s u : State} (h : u.cues = s.cues) : actingCues t u = actingCues t s := by
  rw [actingCues, actingCues, h]

/-- The members of a choice of indices, in index order. -/
theorem filter_finRange_eq {p : Fin 32 → Bool} {l : List (Fin 32)} (hsorted : l.Pairwise (· < ·))
    (hmem : ∀ i, p i = true ↔ i ∈ l) : (List.finRange 32).filter p = l := by
  have hpair : ((List.finRange 32).filter p).Pairwise (· < ·) := (List.pairwise_lt_finRange 32).filter p
  refine List.Perm.eq_of_pairwise (fun a b _ _ hab hba => absurd (hab.trans hba) (lt_irrefl a)) hpair hsorted ?_
  refine (List.perm_ext_iff_of_nodup (hpair.imp ne_of_lt) (hsorted.imp ne_of_lt)).mpr fun i => ?_
  rw [List.mem_filter, ← hmem]
  exact and_iff_right (List.mem_finRange i)

theorem actsThrough_iff (t : Trigger) (u : CueUnit) (i : Fin 32) : actsThrough t u i = true ↔
    u.table[i].enabled = true ∧ (u.table[i].trigger = t.kind ∧
      (isAny u.table[i].trigger u.table[i].param = true ∨ u.table[i].param = t.value)) ∧
      conditionHolds u.ambient u.table[i] = true := by
  simp only [actsThrough, matchesCue, Bool.and_eq_true, Bool.or_eq_true, beq_iff_eq, and_assoc]

/-- The acting cues, when it is known of each cue whether it acts. -/
theorem actingCues_eq {t : Trigger} {s : State} {l : List (Fin 32)} (hsorted : l.Pairwise (· < ·))
    (hacts : ∀ i ∈ l, actsThrough t s.cues i = true)
    (hother : ∀ i, i ∉ l → actsThrough t s.cues i = false) : actingCues t s = l :=
  filter_finRange_eq hsorted fun i =>
    ⟨fun h => by_contra fun hi => by rw [hother i hi] at h; exact Bool.false_ne_true h, hacts i⟩

theorem actingCues_none {t : Trigger} {s : State} (h : ∀ i, actsThrough t s.cues i = false) : actingCues t s = [] :=
  actingCues_eq .nil (fun _ hi => nomatch hi) fun i _ => h i

/-- A cue for any light acts on its own trigger and value. -/
theorem actsThrough_own {t : Trigger} {u : CueUnit} {i : Fin 32} {a : CueAction} {k : TriggerKind} {param : Nat}
    (h : u.table[i] = ⟨true, k, param, 0xF#4, 0, a⟩) (hk : k = t.kind) (hparam : isAny k param = true ∨ param = t.value) :
    actsThrough t u i = true := by
  rw [actsThrough_iff, conditionHolds_any _ _ (by rw [h]), h]
  exact ⟨rfl, ⟨hk, hparam⟩, rfl⟩

theorem actsThrough_disabled {t : Trigger} {u : CueUnit} {i : Fin 32} (h : u.table[i].enabled = false) :
    actsThrough t u i = false := by
  rw [Bool.eq_false_iff, ne_eq, actsThrough_iff, h]
  exact fun hall => Bool.false_ne_true hall.1

theorem actsThrough_other {t : Trigger} {u : CueUnit} {i : Fin 32} (h : u.table[i].trigger ≠ t.kind) :
    actsThrough t u i = false := by
  rw [Bool.eq_false_iff, ne_eq, actsThrough_iff]
  exact fun hall => h hall.2.1.1

/-! ## A cue with one enabled entry, of any light (R184, R185) -/

/-- The relation of the light that a cue's mask admits. -/
theorem conditionHolds_iff (a : Ambient) (c : Cue) : conditionHolds a c = true ↔
    if a.confirmed = none then c.mask.getLsbD 3 = true
    else if a.smoothed.getD 0 < c.threshold then c.mask.getLsbD 0 = true
    else if a.smoothed.getD 0 = c.threshold then c.mask.getLsbD 1 = true else c.mask.getLsbD 2 = true := by
  rw [conditionHolds, relationBit]
  by_cases hdark : a.confirmed = none
  · rw [if_pos (Option.isNone_iff_eq_none.mpr hdark), if_pos hdark]
  rw [if_neg (mt Option.isNone_iff_eq_none.mp hdark), if_neg hdark]
  by_cases hlow : a.smoothed.getD 0 < c.threshold
  · rw [if_pos hlow, if_pos hlow]
  rw [if_neg hlow, if_neg hlow]
  by_cases hsame : a.smoothed.getD 0 = c.threshold
  · rw [if_pos hsame, if_pos hsame]
  · rw [if_neg hsame, if_neg hsame]

theorem isAny_iff (k : TriggerKind) (param : Nat) : isAny k param = true ↔
    k = .announceCued ∧ param = 3 ∨ (k = .stopApproach ∨ k = .stopArrived) ∧ param = 0 := by
  cases k <;> simp [isAny]

/-- The scan clause of O51: one enabled cue, of any trigger, parameter and light. -/
theorem raise_paSource {s : State} {x : Trigger} {j : Fin 32} {k : TriggerKind} {param threshold : Nat} {mask : BitVec 4}
    {q : PaSource} (hj : s.cues.table[j] = ⟨true, k, param, mask, threshold, .paSource q⟩)
    (hothers : ∀ i : Fin 32, i ≠ j → s.cues.table[i].enabled = false) :
    let light := s.cues.ambient.smoothed.getD 0
    let related : Prop :=
      if s.cues.ambient.confirmed = none then mask.getLsbD 3 = true
      else if light < threshold then mask.getLsbD 0 = true
      else if light = threshold then mask.getLsbD 1 = true else mask.getLsbD 2 = true
    let matched : Prop := k = x.kind ∧
      (param = x.value ∨ k = .announceCued ∧ param = 3 ∨ (k = .stopApproach ∨ k = .stopArrived) ∧ param = 0)
    (matched ∧ related → raise x s = s.withSeats ⟨s.seats.records, q⟩) ∧
    (¬(matched ∧ related) → raise x s = s) := by
  intro light related matched
  have hacts : actsThrough x s.cues j = true ↔ matched ∧ related := by
    rw [actsThrough_iff, conditionHolds_iff, hj, isAny_iff, or_comm (b := param = x.value)]
    exact and_iff_right rfl
  have hoff (i : Fin 32) (hi : i ∉ [j]) : actsThrough x s.cues i = false :=
    actsThrough_disabled (hothers i (by simpa using hi))
  refine ⟨fun h => ?_, fun h => ?_⟩
  · have hone : actingCues x s = [j] := actingCues_eq (List.pairwise_singleton _ _)
      (fun i hi => by rw [List.mem_singleton.mp hi]; exact hacts.mpr h) hoff
    rw [raise_single hone, hj]
    rfl
  · refine raise_none (actingCues_none fun i => ?_)
    by_cases hi : i = j
    · rw [hi, Bool.eq_false_iff]; exact mt hacts.mp h
    · exact actsThrough_disabled (hothers i hi)

/-! ## Scenes (R168) -/

/-- A zone after the items of a scene: as the last one that covers it leaves it, and kept where none does. -/
theorem foldl_applyItem (h : Health) (floor : Nat) (i : Fin 16) (z : Zone) (items : List SceneItem) :
    items.foldl (applyItem h floor i) z = match (items.filter fun it => inRange it.range i).getLast? with
      | none => z
      | some it => { z with base := it.level, fadeStep := stepTo it.fade (targetOf h floor it.level) z.current } := by
  induction items using List.reverseRecOn with
  | nil => rfl
  | append_singleton items it ih =>
    rw [List.foldl_append, ih, List.filter_append]
    by_cases hcovers : inRange it.range i = true
    · have hlast : [it].filter (fun it => inRange it.range i) = [it] := List.filter_cons_of_pos hcovers
      rw [hlast, List.getLast?_concat]
      change applyItem h floor i _ it = _
      generalize (items.filter fun it => inRange it.range i).getLast? = last
      rw [applyItem, if_pos hcovers, ← targetOf_eq]
      cases last <;> rfl
    · have hlast : [it].filter (fun it => inRange it.range i) = [] := List.filter_cons_of_neg hcovers
      rw [hlast, List.append_nil]
      exact if_neg hcovers

/-- The lights in a scene that has items. -/
theorem applySceneTo_lit {n : Fin 16} {l : Lights} (hn : l.scenes[n] ≠ []) (h : Health) :
    (applySceneTo h n l).current = some n ∧ ∀ i : Fin 16,
      ((l.scenes[n].filter fun it => inRange it.range i) = [] → (applySceneTo h n l).zones[i] = l.zones[i]) ∧
      ∀ it, (l.scenes[n].filter fun it => inRange it.range i).getLast? = some it →
        (applySceneTo h n l).zones[i] = { l.zones[i] with
          base := it.level, fadeStep := stepTo it.fade (targetOf h l.floor it.level) l.zones[i].current } := by
  have happlied : applySceneTo h n l = { l with
      zones := Vector.ofFn fun i => l.scenes[n].foldl (applyItem h l.floor i) l.zones[i], current := some n } :=
    if_neg (mt List.isEmpty_iff.mp hn)
  have hzone (i : Fin 16) : (applySceneTo h n l).zones[i] = l.scenes[n].foldl (applyItem h l.floor i) l.zones[i] := by
    rw [happlied]
    exact Vector.getElem_ofFn i.isLt
  refine ⟨by rw [happlied], fun i => ⟨fun hnone => ?_, fun it hlast => ?_⟩⟩
  · rw [hzone, foldl_applyItem, hnone]
    rfl
  · rw [hzone, foldl_applyItem, hlast]

theorem applySceneTo_empty {n : Fin 16} {l : Lights} (hn : l.scenes[n] = []) (h : Health) : applySceneTo h n l = l :=
  if_pos (List.isEmpty_iff.mpr hn)

end Sys2Proof.Machine

/-! # Proofs: the Marker and its cues (O51) -/

namespace Sys2Proof.Machine

set_option Elab.async false

/-! ## What a cue's action raises -/

theorem preempt_raised (a e : Entry) (s : State) : (preempt a e s).2 = [⟨.announceCued, entryKindCode e.kind⟩] := rfl

/-- Only a cue raises a trigger in an offer, and it raises ANNOUNCE_CUED. -/
theorem joinEntry_raised (e : Entry) (s : State) : ∀ t ∈ (joinEntry e s).2, t.kind = .announceCued := by
  unfold joinEntry
  dsimp only
  split
  · exact fun t ht => nomatch ht
  · split
    · intro t ht
      rw [preempt_raised, List.mem_singleton] at ht
      rw [ht]
    · exact fun t ht => nomatch ht

theorem offerEntry_raised (e : Entry) (s : State) : ∀ t ∈ (offerEntry e s).2, t.kind = .announceCued := by
  unfold offerEntry
  split
  · exact fun t ht => nomatch ht
  split
  · exact joinEntry_raised e s
  split
  · exact fun t ht => nomatch ht
  · exact joinEntry_raised e _

theorem doAction_raised (a : CueAction) (s : State) : ∀ t ∈ (doAction a s).2, t.kind = .announceCued := by
  cases a with
  | announce phrase priority policy count => exact offerEntry_raised _ s
  | scene | overlay | clear | headsetCeiling | paCeiling | paSource | duckDepth => exact fun t ht => nomatch ht

/-! ## A Marker (R189) -/

section Marker

variable {h : MsgHead} {s : State} (ha : Addressed h s) {m : Nat} (hm : m ≤ 255)
include ha hm

/-- A Marker raises MARKER, and answers; then the cue of an entry that may go. -/
theorem exec_marker : exec (.marker h (payload [m])) s =
    .next (tryCue (reply h 0x31#6 .accepted [] (raise ⟨.marker, m⟩ (decoderIdle s)))) := by
  have hword : argN (payload [m]) 1 = m := argN_payload (by omega)
  have hjudge : judgeKind .marker (s.pins.profile == .strict) (payload [m]) (decoderIdle s) =
      ⟨.accepted, [], raise ⟨.marker, m⟩ (decoderIdle s)⟩ := by
    change judgeMarker _ _ _ = _
    rw [judgeMarker, hword, not_outside (Nat.zero_le _) hm]
    cases s.pins.profile <;> rfl
  exact ha.message_completes (k := .marker) (p := payload [m]) rfl (by decide : 1 ≤ 64) hjudge

/-- The one enabled cue on a Marker does its action, and what that raises finds no cue. -/
theorem exec_marker_one {j : Fin 32} {a : CueAction} (hone : OneCue j .marker m a s) :
    exec (.marker h (payload [m])) s =
      .next (tryCue (reply h 0x31#6 .accepted [] (doAction a (decoderIdle s)).1)) := by
  have hidle : OneCue j .marker m a (decoderIdle s) := hone.congr rfl
  have hdone : OneCue j .marker m a (doAction a (decoderIdle s)).1 := hidle.congr (doAction_frame a _).cues
  have hfold : ∀ ts : List Trigger, (∀ t ∈ ts, t.kind = .announceCued) →
      ts.foldl (fun s' t' => (scanOnce t' s').1) (doAction a (decoderIdle s)).1 = (doAction a (decoderIdle s)).1 := by
    intro ts
    induction ts with
    | nil => exact fun _ => rfl
    | cons t ts ih =>
      intro hts
      have hkind : TriggerKind.marker ≠ t.kind := by rw [hts t List.mem_cons_self]; decide
      rw [List.foldl_cons, scanOnce_other hdone hkind]
      exact ih fun t' ht' => hts t' (List.mem_cons_of_mem _ ht')
  rw [exec_marker ha hm, raise_one hidle rfl (.inr rfl), hfold _ (doAction_raised a _)]

end Marker

/-! ## The actions on zones (R170) -/

theorem placeOverlay_none {k : Fin 4} {l : Lights} (hk : l.patterns[k] = none) (r : ZoneRange) (lit dark : Nat) :
    placeOverlay r k lit dark l = l := by
  rw [placeOverlay, hk]

theorem placeOverlay_some {k : Fin 4} {l : Lights} {pat : Pattern} (hk : l.patterns[k] = some pat) (r : ZoneRange)
    (lit dark : Nat) : placeOverlay r k lit dark l = { l with
      zones := Vector.ofFn fun i =>
        if inRange r i = true then { l.zones[i] with overlay := some ⟨k, lit, dark, 0, 0, pat.cycles⟩ }
        else l.zones[i] } := by
  rw [placeOverlay, hk]

theorem clearOverlays_eq (h : Health) (r : ZoneRange) (l : Lights) : clearOverlays h r l = { l with
    zones := Vector.ofFn fun i => if inRange r i = true ∧ l.zones[i].overlay ≠ none then { l.zones[i] with
        overlay := none
        fadeStep := stepTo l.release (targetOf h l.floor l.zones[i].base) l.zones[i].current }
      else l.zones[i] } := by
  have hzone (i : Fin 16) : (if inRange r i && l.zones[i].overlay.isSome then endOverlay h l l.zones[i] else l.zones[i]) =
      if inRange r i = true ∧ l.zones[i].overlay ≠ none then { l.zones[i] with
        overlay := none
        fadeStep := stepTo l.release (targetOf h l.floor l.zones[i].base) l.zones[i].current }
      else l.zones[i] := by
    refine if_congr ?_ ?_ rfl
    · rw [Bool.and_eq_true, Option.isSome_iff_ne_none]
    · rw [endOverlay, releaseZone, targetOf_eq, stepTo_eq]
  rw [clearOverlays]
  exact congrArg (fun f => { l with zones := Vector.ofFn f }) (funext hzone)

/-! ## Two cues (R187) -/

/-- The urgent entry is active after it preempted. -/
theorem preempt_active {a e : Entry} {q : List Entry} {s : State} (he : e ∈ q) (hw : e.state = .waiting)
    (hother : ¬(e.kind = a.kind ∧ e.subject = a.subject)) :
    ∃ f, activeEntry (preempt a e (setQueue q s)).1 = some f := by
  rw [preempt_eq]
  exact cueEntry_active (new_stays he hw hother _)

/-- Two cues on one Marker act in index order: the later setting stands. -/
theorem raise_marker_two {s : State} {m d1 d2 : Nat} {i j : Fin 32} (hij : i < j)
    (hi : s.cues.table[i] = ⟨true, .marker, m, 0xF#4, 0, .duckDepth d1⟩)
    (hj : s.cues.table[j] = ⟨true, .marker, m, 0xF#4, 0, .duckDepth d2⟩)
    (hothers : ∀ k : Fin 32, k ≠ i → k ≠ j → s.cues.table[k].enabled = false) :
    raise ⟨.marker, m⟩ s = s.withMixer { s.mixer with audio := { s.mixer.audio with duckDepth := d2 } } := by
  have hacting : actingCues ⟨.marker, m⟩ s = [i, j] := by
    refine actingCues_eq (by simpa using hij) (fun k hk => ?_) fun k hk => ?_
    · rcases List.mem_pair.mp hk with rfl | rfl
      · exact actsThrough_own hi rfl (.inr rfl)
      · exact actsThrough_own hj rfl (.inr rfl)
    · rw [List.mem_pair, not_or] at hk
      exact actsThrough_disabled (hothers k hk.1 hk.2)
  have hscan : scanOnce ⟨.marker, m⟩ s =
      (setAudio { s.mixer.audio with duckDepth := d2 } (setAudio { s.mixer.audio with duckDepth := d1 } s), []) := by
    rw [scanOnce_acting, hacting, List.foldl_cons, List.foldl_cons, List.foldl_nil, actCue, actCue, hi, hj]
    rfl
  rw [raise, hscan]
  rfl

section Second

variable {s : State} {m phrase count k : Nat} {i j : Fin 32} {policy : RepeatPolicy} {q : PaSource}
  (hi : s.cues.table[i] = ⟨true, .marker, m, 0xF#4, 0, .announce phrase 3 policy count⟩)
  (hj : s.cues.table[j] = ⟨true, .announceCued, k, 0xF#4, 0, .paSource q⟩)
  (hothers : ∀ l : Fin 32, l ≠ i → l ≠ j → s.cues.table[l].enabled = false)
include hi hj hothers

/-- Of the two cues the Marker's acts on a Marker. -/
theorem actingCues_marker : actingCues ⟨.marker, m⟩ s = [i] := by
  refine actingCues_eq (List.pairwise_singleton _ _) (fun l hl => ?_) fun l hl => ?_
  · rw [List.mem_singleton.mp hl]
    exact actsThrough_own hi rfl (.inr rfl)
  · by_cases hlj : l = j
    · subst hlj
      exact actsThrough_other (by rw [hj]; exact fun h => nomatch h)
    · exact actsThrough_disabled (hothers l (by simpa using hl) hlj)

/-- And the other on the cue of a GENERAL entry. -/
theorem actingCues_cued (hk : k = 2 ∨ k = 3) : actingCues ⟨.announceCued, 2⟩ s = [j] := by
  refine actingCues_eq (List.pairwise_singleton _ _) (fun l hl => ?_) fun l hl => ?_
  · rw [List.mem_singleton.mp hl]
    refine actsThrough_own hj rfl ?_
    rcases hk with rfl | rfl
    · exact .inr rfl
    · exact .inl rfl
  · by_cases hli : l = i
    · subst hli
      exact actsThrough_other (by rw [hi]; exact fun h => nomatch h)
    · exact actsThrough_disabled (hothers l hli (by simpa using hl))

/-- A Marker's urgent announcement preempts, and the ANNOUNCE_CUED that its cue raises is scanned after it. -/
theorem raise_marker_second (hk : k = 2 ∨ k = 3) {a : Entry} (hactive : activeEntry s = some a)
    (hp : Preempts 3 a s) (hroom : s.ann.queue.length < 6)
    (hnew : ∀ f ∈ s.ann.queue, ¬(f.kind = .general ∧ f.subject = phrase)) :
    (raise ⟨.marker, m⟩ s).seats.paSource = q ∧ ∃ f, activeEntry (raise ⟨.marker, m⟩ s) = some f := by
  have hfree : s.ann.queue.any (hasKey .general phrase) = false := by
    rw [List.any_eq_false]
    intro e he hkey
    exact hnew e he (Prod.mk.inj ((hasKey_iff _ _ _).mp hkey))
  have hoffer : doAction (.announce phrase 3 policy count) s =
      preempt a (offered .general phrase 3 policy count s.now)
        (setQueue (insertEntry (offered .general phrase 3 policy count s.now) s.ann.queue) s) :=
    (offerEntry_room (e := offered .general phrase 3 policy count s.now) hfree hroom).trans
      (joinEntry_preempts (e := offered .general phrase 3 policy count s.now) hactive hp)
  obtain ⟨f, hf⟩ := preempt_active (s := s) (a := a) (e := offered .general phrase 3 policy count s.now)
    (q := insertEntry (offered .general phrase 3 policy count s.now) s.ann.queue) (mem_insertEntry.mpr (.inl rfl)) rfl
    (fun hsame => hnew a (activeEntry_mem hactive).1 ⟨hsame.1.symm, hsame.2.symm⟩)
  have hcues : (preempt a (offered .general phrase 3 policy count s.now)
      (setQueue (insertEntry (offered .general phrase 3 policy count s.now) s.ann.queue) s)).1.cues = s.cues := by
    rw [← hoffer]
    exact (doAction_frame _ s).cues
  have hraised : (preempt a (offered .general phrase 3 policy count s.now)
      (setQueue (insertEntry (offered .general phrase 3 policy count s.now) s.ann.queue) s)).2 = [⟨.announceCued, 2⟩] := rfl
  have hraise : raise ⟨.marker, m⟩ s = setPaSource q (preempt a (offered .general phrase 3 policy count s.now)
      (setQueue (insertEntry (offered .general phrase 3 policy count s.now) s.ann.queue) s)).1 := by
    rw [raise_single (actingCues_marker hi hj hothers), hi, hoffer, hraised, List.foldl_cons, List.foldl_nil,
      scanOnce_single ((actingCues_congr hcues).trans (actingCues_cued hi hj hothers hk)), hcues, hj]
    rfl
  rw [hraise]
  exact ⟨rfl, f, hf⟩

end Second

/-! ## The three parts of O51 -/

section Parts

variable {h : MsgHead} {s : State} (ha : Addressed h s)
include ha

theorem exec_applyScene (n : Fin 16) : exec (.applyScene h (payload [n.val])) s = .next (reply h 0x2A#6 .accepted []
    ((decoderIdle s).withLights (applySceneTo s.dog.health n s.lights))) := by
  have hword : argN (payload [n.val]) 1 = n.val := argN_payload (by omega)
  have hjudge : judgeKind .applyScene (s.pins.profile == .strict) (payload [n.val]) (decoderIdle s) =
      ⟨.accepted, [], (decoderIdle s).withLights (applySceneTo s.dog.health n s.lights)⟩ := by
    change judgeApplyScene _ _ _ = _
    rw [judgeApplyScene, hword, not_outside (Nat.zero_le _) (by omega),
      show Fin.ofNat 16 n.val = n from Fin.ofNat_val_eq_self n]
    cases s.pins.profile <;> rfl
  exact ha.message_does (k := .applyScene) (p := payload [n.val]) rfl (by decide : 1 ≤ 64) hjudge

/-- A scene by message and by Marker (R168, R176, R189). -/
theorem scene_applied (n : Fin 16) :
    let lit (t : State) : Prop := t.lights.current = some n ∧ ∀ i : Fin 16,
      ((s.lights.scenes[n].filter fun it => inRange it.range i) = [] → t.lights.zones[i] = s.lights.zones[i]) ∧
      ∀ it, (s.lights.scenes[n].filter fun it => inRange it.range i).getLast? = some it →
        t.lights.zones[i] = { s.lights.zones[i] with
          base := it.level
          fadeStep := stepTo it.fade (targetOf s.dog.health s.lights.floor it.level) s.lights.zones[i].current }
    (s.lights.scenes[n] = [] →
      exec (.applyScene h (payload [n.val])) s = .next (reply h 0x2A#6 .accepted [] (decoderIdle s))) ∧
    (s.lights.scenes[n] ≠ [] → ∃ t, exec (.applyScene h (payload [n.val])) s = .next t ∧ lit t) ∧
    ∀ (m : Nat) (j : Fin 32), m ≤ 255 → OneCue j .marker m (.scene n) s → activeEntry s ≠ none →
      (s.lights.scenes[n] ≠ [] → ∃ t, exec (.marker h (payload [m])) s = .next t ∧ lit t) ∧
      (s.lights.scenes[n] = [] →
        exec (.marker h (payload [m])) s = .next (reply h 0x31#6 .accepted [] (decoderIdle s))) := by
  intro lit
  have hempty (hn : s.lights.scenes[n] = []) :
      (decoderIdle s).withLights (applySceneTo s.dog.health n s.lights) = decoderIdle s := by
    rw [applySceneTo_empty hn]; rfl
  have hlit (hn : s.lights.scenes[n] ≠ []) (k : BitVec 6) :
      lit (reply h k .accepted [] ((decoderIdle s).withLights (applySceneTo s.dog.health n s.lights))) := by
    have hkept := (reply_frame h k .accepted [] ((decoderIdle s).withLights (applySceneTo s.dog.health n s.lights))).lights
    rw [State.withLights_lights] at hkept
    have happlied := applySceneTo_lit hn s.dog.health
    rw [← hkept] at happlied
    exact happlied
  have happly := exec_applyScene ha n
  refine ⟨fun hn => by rw [happly, hempty hn], fun hn => ⟨_, happly, hlit hn _⟩, fun m j hm hone hactive => ?_⟩
  obtain ⟨e, he⟩ := Option.ne_none_iff_exists'.mp hactive
  have hmarked : exec (.marker h (payload [m])) s = .next (tryCue (reply h 0x31#6 .accepted []
      ((decoderIdle s).withLights (applySceneTo s.dog.health n s.lights)))) := exec_marker_one ha hm hone
  have hstays : activeEntry ((decoderIdle s).withLights (applySceneTo s.dog.health n s.lights)) = some e := he
  rw [tryCue_none (cueable_active ((activeEntry_reply _ _ _ _ _).trans hstays))] at hmarked
  exact ⟨fun hn => ⟨_, hmarked, hlit hn _⟩, fun hn => by rw [hmarked, hempty hn]⟩

end Parts

/-- Settles O51. -/
theorem sceneIsAppliedByMessageAndByMarker : Obligations.SceneIsAppliedByMessageAndByMarker := by
  refine ⟨fun h s n ha => scene_applied ha n, fun h s m ha hm => ?marker,
    fun s x j k param threshold mask q hj hothers => raise_paSource hj hothers⟩
  intro b audio marked zones sets
  have acts {j : Fin 32} {a : CueAction} (hone : OneCue j .marker m a s) : marked (doAction a b).1 :=
    exec_marker_one ha hm hone
  refine ⟨fun hnone => ?none, fun j r k lit dark hone => ⟨fun hk => ?noPattern, fun pat hk => ?overlay⟩,
    fun j r hone => ?clear, fun j k => ⟨fun hone => acts hone, fun hone => acts hone, fun hone => acts hone⟩,
    fun j q hone => acts hone, fun j phrase priority count policy hone => acts hone,
    fun i j hij d1 d2 hi hj hothers => ?two,
    fun i j phrase count k policy q a hi hj hk hothers hactive hhand hlow hok hroom hnew => ?second⟩
  case none =>
    have hraise : raise ⟨.marker, m⟩ b = b := by
      refine raise_none (actingCues_none fun i => ?_)
      rw [Bool.eq_false_iff, ne_eq, actsThrough_iff]
      rintro ⟨hon, ⟨hkind, hparam⟩, -⟩
      rw [hkind] at hparam
      exact hnone i hon ⟨hkind, hparam.resolve_left Bool.false_ne_true⟩
    have hexec := exec_marker ha hm
    rw [hraise] at hexec
    exact hexec
  case noPattern =>
    have hacts := acts hone
    have hsame : (doAction (.overlay r k lit dark) b).1 = b := by
      change b.withLights (placeOverlay r k lit dark s.lights) = b
      rw [placeOverlay_none hk]
      rfl
    rwa [hsame] at hacts
  case overlay =>
    have hacts := acts hone
    have hplaced : (doAction (.overlay r k lit dark) b).1 = b.withLights (placeOverlay r k lit dark s.lights) := rfl
    rw [hplaced, placeOverlay_some hk] at hacts
    exact hacts
  case clear =>
    have hacts := acts hone
    have hcleared : (doAction (.clear r) b).1 = b.withLights (clearOverlays s.dog.health r s.lights) := rfl
    rw [hcleared, clearOverlays_eq] at hacts
    exact hacts
  case two =>
    have hexec := exec_marker ha hm
    rw [raise_marker_two (s := decoderIdle s) hij hi hj hothers] at hexec
    exact hexec
  case second =>
    obtain ⟨hq, f, hf⟩ := raise_marker_second (s := decoderIdle s) hi hj hothers hk hactive ⟨hhand, hlow, hok, rfl⟩
      hroom hnew
    have hexec := exec_marker ha hm
    rw [tryCue_none (cueable_active ((activeEntry_reply _ _ _ _ _).trans hf))] at hexec
    exact ⟨_, hexec, (congrArg SeatTable.paSource (reply_frame h _ _ _ _).seats).trans hq⟩

end Sys2Proof.Machine
